-- ==== Sys2Proof/Word.lean ====
section
/-! DEFINITION. The byte, and the words the opcode table numbers. -/

namespace Sys2Proof

/-- A byte, 0..255, bit 7 its most significant bit (00_scope.md R8). -/
abbrev Byte := BitVec 8

/-- A word of the opcode table, in one of its two formats: a command byte `CMD8` (30_encoding.md R51), or a
frame type byte `FRAME_TYPE`, the byte `raw[2]` of a frame (30_encoding.md R53). -/
inductive Word where
  | cmd8 (b : Byte)
  | frameType (b : Byte)
  deriving DecidableEq, Repr

end Sys2Proof
end

