-- ==== Sys2Proof/Syntax.lean ====
section
/-! DEFINITION. The operations of the block, one constructor per row of spec/opcode_table.json, and the statuses they
end with. -/

namespace Sys2Proof

/-- One constructor per row of spec/opcode_table.json. Operands travel on the operand images of 10_state.md R20, not in
the word (30_encoding.md R51), so no constructor has an argument. -/
inductive Instr where
  /-- `0x10` CRC8, R65 -/
  | crc8
  /-- `0x20` CH_PACK, R73 -/
  | chPack
  /-- `0x21` CH_UNPACK, R74 -/
  | chUnpack
  /-- `0x22` CH_P2US, R76 -/
  | chP2us
  /-- `0x23` CH_US2P, R77 -/
  | chUs2p
  /-- `0x30` ENV_NEW, R86 -/
  | envNew
  /-- `0x31` ENV_NEW_RAW, R87 -/
  | envNewRaw
  /-- `0x32` ENV_ADDR, R88 -/
  | envAddr
  /-- `0x33` ENV_LEN, R89 -/
  | envLen
  /-- `0x34` ENV_TYPE, R90 -/
  | envType
  /-- `0x35` ENV_DATA, R91 -/
  | envData
  /-- `0x36` ENV_CSUM, R92 -/
  | envCsum
  /-- `0x37` ENV_SIZE, R93 -/
  | envSize
  /-- `0x38` ENV_BUILD, R99 -/
  | envBuild
  /-- `0x40` XENV_NEW, R94 -/
  | xenvNew
  /-- `0x41` XENV_DEST, R95 -/
  | xenvDest
  /-- `0x42` XENV_SRC, R96 -/
  | xenvSrc
  /-- `0x43` XENV_XTYPE, R97 -/
  | xenvXtype
  /-- `0x44` XENV_DATA, R98 -/
  | xenvData
  /-- `0x50` FB_ADD, R112 -/
  | fbAdd
  /-- `0x51` FB_GET, R113 -/
  | fbGet
  /-- `0x52` FB_RESYNC, R114 -/
  | fbResync
  /-- `0x53` FB_FLUSH, R115 -/
  | fbFlush
  /-- `0x60` DISP_GEN, R125 -/
  | dispGen
  /-- `0x70` PR_PROCESS, R131 -/
  | prProcess
  /-- `0x71` PR_BUILD, R132 -/
  | prBuild
  /-- `0x72` PR_FLUSH, R133 -/
  | prFlush
  /-- `0x73` PR_RSTAT, R134 -/
  | prRstat
  /-- `0x74` PR_ERATE, R135 -/
  | prErate
  /-- type byte `0x1E`, FRAME.ATTITUDE, R53 -/
  | frameAttitude
  /-- type byte `0x07`, FRAME.VARIOMETER, R53 -/
  | frameVariometer
  deriving DecidableEq, Repr

/-- The six error kinds (60_exceptions.md R140). -/
inductive ErrorKind where
  | corruptedFrame
  | unknownAddress
  | unknownFrameType
  | invalidLength
  | conversionOutOfRange
  | invalidRange
  deriving DecidableEq, Repr

/-- What an operation ends with: `OK`, an error kind, or `Refused` (10_state.md R19, 60_exceptions.md R140, R142). -/
inductive Status where
  | ok
  | error (e : ErrorKind)
  | refused
  deriving DecidableEq, Repr

/-- The numeric codes of 60_exceptions.md R140; 255 is the code R142 suggests for `Refused`. -/
def Status.code : Status → Byte
  | .ok => 0
  | .error .corruptedFrame => 1
  | .error .unknownAddress => 2
  | .error .unknownFrameType => 3
  | .error .invalidLength => 4
  | .error .conversionOutOfRange => 5
  | .error .invalidRange => 6
  | .refused => 255

end Sys2Proof
end

