-- ==== Sys2Proof/Config.lean ====
section
/-! DEFINITION. The constants of 00_scope.md R5, the parameters and tables of R6, R7 and 10_state.md R17, R18 with the
defaults of 92_eei_decisions.md, and the values the spec leaves open. -/

namespace Sys2Proof

namespace Config

/-- `POLY_PROD` (R5). -/
def polyProd : Byte := 0xD5
/-- `POLY_ALT` (R5): selectable through `CRC8` only (R67). -/
def polyAlt : Byte := 0xBA
/-- `CRC_SEED` (R5). -/
def crcSeed : Byte := 0x00
/-- `FRAME_MAX_SIZE` (R5). -/
def frameMaxSize : Nat := 64
/-- `HARD_CAP = 2 × FRAME_MAX_SIZE + 2` (R5, R119). -/
def hardCap : Nat := 2 * frameMaxSize + 2
/-- `RESYNC_MARKER` (R5); `Params.marker` carries it (D25). -/
def resyncMarker : Byte := 0xC8
/-- `N_CH` (R5). -/
def nCh : Nat := 16
/-- `CH_W` (R5). -/
def chW : Nat := 11
/-- `CH_BYTES` (R5). -/
def chBytes : Nat := 22
/-- `PROTO_MIN` (R5). -/
def protoMin : Int := 0
/-- `PROTO_MAX` (R5). -/
def protoMax : Int := 1984
/-- `FAILSAFE_PROTO` (R5). -/
def failsafeProto : Int := 992
/-- `FAILSAFE_US` (R5). -/
def failsafeUs : Int := 1500
/-- `US_PRACTICAL_MAX` (R5): read by no rule (R81). -/
def usPracticalMax : Int := 2000
/-- `SCALE = scaleNum / convDen = 78/125` (R5, R78). -/
def scaleNum : Int := 78
/-- `OFFSET = offsetNum / convDen = 110084/125` (R5, R78). -/
def offsetNum : Int := 110084
/-- The common denominator of `SCALE` and `OFFSET` (R78). -/
def convDen : Int := 125
/-- `EXT_MIN_SIZE` (R5). -/
def extMinSize : Nat := 6

end Config

/-- `TIE_RULE` (00_scope.md R6, D7): how `CH_US2P` rounds an exact half. -/
inductive TieRule where
  | even
  | halfUp
  deriving DecidableEq, Repr

/-- `UNKNOWN_TYPE_POLICY` (00_scope.md R6, D17). -/
inductive UnknownTypePolicy where
  | error
  | rawFallback
  deriving DecidableEq, Repr

/-- The identifiers of frame kinds (10_state.md R17 `name`): the two attested, the others the source names without a
code (44_dispatcher.md R126, 42_envelope.md R98), the fixtures of 30_encoding.md R53, and any further one by a number. -/
inductive KindName where
  | attitude
  | variometer
  | deviceInfo
  | radioSync
  | linkStatistics
  | flightMode
  | battery
  | channelsPacked
  | gps
  | parameterSettingsEntry
  | fixUnhandled
  | fixExt
  | fixExt5
  | fixMin12
  | other (n : Nat)
  deriving DecidableEq, Repr

/-- `xdata_offset` (10_state.md R17): 6, or 5 for the one kind that overrides it. -/
inductive XDataOffset where
  | six
  | five
  deriving DecidableEq, Repr

/-- `class` (10_state.md R17), with the `xdata_offset` that only an EXTENDED kind has. -/
inductive FrameClass where
  | base
  | extended (o : XDataOffset)
  deriving DecidableEq, Repr

/-- `extra_check` (10_state.md R17, U19) as plain data: always `ok`, or the body number `n` of the opaque
`Config.extraCheck`. -/
inductive ExtraCheck where
  | ok
  | body (n : Nat)
  deriving DecidableEq, Repr

/-- A kind descriptor of `TYPE_REGISTRY` (10_state.md R17). -/
structure KindDesc where
  name : KindName
  handled : Bool
  cls : FrameClass
  fixedSize : Option Nat
  checkMinLen : Bool
  /-- `none` where the descriptor leaves the flag unspecified (U13). -/
  telemetry : Option Bool
  extraCheck : ExtraCheck
  deriving DecidableEq, Repr

/-- The tag of a `Frame` (10_state.md R21, 44_dispatcher.md R128): `RAW`, or the name of a concrete kind. -/
inductive FrameKind where
  | raw
  | named (n : KindName)
  deriving DecidableEq, Repr

/-- FREE VALUE (log entry 7): what the out-of-scope body number `n` of a kind's constructor answers for an image; `none`
is ok (10_state.md R17 `extra_check`, U19). No body: no proof can know a value of it. -/
opaque Config.extraCheck : Nat → List Byte → Option ErrorKind

/-- FREE VALUE (log entry 6): the telemetry flag of a frame whose kind leaves it unspecified (U13, 44_dispatcher.md
R128). No body. -/
opaque Config.freeTelemetry : FrameKind → List Byte → Bool

/-- The parameters and tables supplied before the first operation (70_reset_and_hazards.md R167) and written by none. -/
structure Params where
  /-- `DATA_MAX`; `none` is unbounded (D6). -/
  dataMax : Option Nat
  /-- `Q_CAP`; `none` is unbounded (D6). -/
  qCap : Option Nat
  cntW : Nat
  idxW : Nat
  valW : Nat
  tieRule : TieRule
  unknownType : UnknownTypePolicy
  /-- `RESYNC_MARKER` (D25, U15). -/
  marker : Byte
  /-- `TYPE_REGISTRY` (10_state.md R17), one entry per type code. -/
  types : List (Byte × KindDesc)
  /-- `ADDRESS_REGISTRY` (10_state.md R18). -/
  addresses : List Byte
  /-- `XTYPE_REGISTRY` (10_state.md R18). -/
  xtypes : List Byte
  deriving DecidableEq, Repr

namespace Config

/-- The registry entry `ATTITUDE` of 30_encoding.md R53: "size 10", "telemetry flag true". -/
def descAttitude : KindDesc := ⟨.attitude, true, .base, some 10, false, some true, .ok⟩
/-- The registry entry `VARIOMETER` of 30_encoding.md R53: "size-7". -/
def descVariometer : KindDesc := ⟨.variometer, true, .base, some 7, false, none, .ok⟩
/-- Fixture of 30_encoding.md R53. DESIGN CHOICE (log entry 12), unsafe: its `class` and its `check_min_len` are `n/a` there;
the model writes `BASE` and false. `DISP_GEN` reads neither, because the kind is not handled; `ENV_TYPE` can return both
in the descriptor. -/
def descFixUnhandled : KindDesc := ⟨.fixUnhandled, false, .base, none, false, none, .ok⟩
/-- Fixture of 30_encoding.md R53. -/
def descFixExt : KindDesc := ⟨.fixExt, true, .extended .six, none, false, none, .ok⟩
/-- Fixture of 30_encoding.md R53. -/
def descFixExt5 : KindDesc := ⟨.fixExt5, true, .extended .five, none, false, none, .ok⟩
/-- Fixture of 30_encoding.md R53. -/
def descFixMin12 : KindDesc := ⟨.fixMin12, true, .base, some 12, true, none, .ok⟩

/-- The example registry `REG_EX` (30_encoding.md R53). -/
def regEx : List (Byte × KindDesc) :=
  [(0x1E, descAttitude), (0x07, descVariometer), (0xF0, descFixUnhandled), (0xF1, descFixExt),
   (0xF2, descFixExt5), (0xF3, descFixMin12)]

/-- The defaults of 92_eei_decisions.md, "Open parameters, collected"; the tables are those the spec gives "for tests"
(log entry 2: no statement rests on them). -/
def params : Params where
  dataMax := none
  qCap := none
  cntW := 32
  idxW := 16
  valW := 16
  tieRule := .even
  unknownType := .error
  marker := resyncMarker
  types := regEx
  addresses := [0xC8, 0xEA, 0xEE]
  xtypes := [0x01, 0x02]

end Config

end Sys2Proof
end

