-- ==== Sys2Proof/Machine/State.lean ====
section
/-! DEFINITION. The state of the block, its ports, the machine after reset, and the reasons a step can stop. -/

namespace Sys2Proof.Machine

open Sys2Proof

/-- The Frame Buffer (10_state.md R12 to R14): the byte queue `FB.Q`, oldest first; the size hypothesis `FB.S`, 0 for
unknown; the availability flag `FB.avail`. -/
structure FrameBuffer where
  q : List Byte
  size : Nat
  avail : Bool
  deriving DecidableEq, Repr

/-- The Frame Processor (45_processor.md): it owns one Frame Buffer and the two statistics counters (10_state.md R16). -/
structure Processor where
  fb : FrameBuffer
  processed : Nat
  errors : Nat
  deriving DecidableEq, Repr

/-- The kind operand of `ENV_SIZE` and `XENV_DATA`: `RAW`, or a descriptor (42_envelope.md R93, R98). -/
inductive KindOperand where
  | raw
  | desc (d : KindDesc)
  deriving DecidableEq, Repr

/-- The operand images (10_state.md R20; `stop` is the operand `end` of `CRC8`). Integers are unbounded here and are
checked against the port widths by each operation (92_eei_decisions.md D4). -/
structure Operands where
  poly : Byte
  data : List Byte
  start : Int
  stop : Int
  ch : List Int
  pk : List Byte
  v : Int
  us : Int
  raw : List Byte
  kind : KindOperand
  addr : Byte
  type : Byte
  payload : List Byte
  chunk : List Byte
  deriving DecidableEq, Repr

/-- The operand images when no operation is in progress, and those of an instruction word presented with operand words
of zeros: zero integers and bytes, empty sequences, the two fixed-size images at their sizes (log entry 5). -/
def Operands.idle : Operands where
  poly := 0
  data := []
  start := 0
  stop := 0
  ch := List.replicate 16 0
  pk := List.replicate 22 0
  v := 0
  us := 0
  raw := []
  kind := .raw
  addr := 0
  type := 0
  payload := []
  chunk := []

/-- One request of the host: a word of the table's formats and the operand images (30_encoding.md R51, D1). -/
structure Request where
  word : Word
  operands : Operands
  deriving DecidableEq, Repr

/-- A `Frame` value (10_state.md R21). -/
structure Frame where
  kind : FrameKind
  raw : List Byte
  deriving DecidableEq, Repr

/-- What an operation returns beside its status (30_encoding.md R52, column results). -/
inductive Result where
  /-- the operation has no result, or ended with an error or a refusal -/
  | nothing
  | byte (b : Byte)
  | int (n : Int)
  | bytes (bs : List Byte)
  | ints (ns : List Int)
  /-- `FB_RESYNC`: whether the marker was found -/
  | found (b : Bool)
  /-- `FB_GET`, `PR_BUILD`: the result `none` -/
  | absent
  | frame (f : Frame)
  /-- `ENV_TYPE`: the type byte and, through `TYPE_REGISTRY`, its descriptor (42_envelope.md R90) -/
  | typed (t : Byte) (d : KindDesc)
  /-- a type byte as the dispatcher decodes it: `none` is the raw fallback (44_dispatcher.md R125) -/
  | kind (d : Option KindDesc)
  deriving DecidableEq, Repr

/-- The answer to a request (10_state.md R19, 92_eei_decisions.md D1). -/
structure Response where
  status : Status
  result : Result
  deriving DecidableEq, Repr

/-- The whole machine. `pr` is the state the spec gives it; `params` are the parameters and tables supplied before the
first operation (70_reset_and_hazards.md R167, log entry 2); the rest are its ports (log entries 1 and 5). -/
structure State where
  pr : Processor
  params : Params
  /-- the requests the host has yet to issue, the next one first -/
  requests : List Request
  /-- the operand images of the request being executed -/
  ops : Operands
  /-- the answer to the last completed request -/
  response : Option Response
  /-- the frames that have appeared at the sink, oldest first (45_processor.md R138) -/
  sink : List Frame
  deriving DecidableEq, Repr

/-- The reset value of the Frame Buffer (10_state.md R23): EMPTY. -/
def FrameBuffer.empty : FrameBuffer := ⟨[], 0, false⟩

/-- An instance just created with parameters `p` (10_state.md R23, 70_reset_and_hazards.md R165). -/
def State.resetWith (p : Params) : State where
  pr := ⟨FrameBuffer.empty, 0, 0⟩
  params := p
  requests := []
  ops := Operands.idle
  response := none
  sink := []

/-- The machine right after reset, with the default parameters of 92_eei_decisions.md. -/
def State.reset : State := State.resetWith Config.params

/-- No operation of this block faults: every error kind is a status and the block goes on ("There is no halted,
locked-up or error state of the block as a whole", 60_exceptions.md R146). -/
inductive Fault where
  deriving DecidableEq, Repr

/-- Why a step has no meaning. -/
inductive Refusal where
  /-- Raised by `exec` for an instruction without a meaning; no arm of this model raises it. Safe. (The outcome `Refused`
  of 60_exceptions.md R142 is not this: it is a status, and the block goes on.) -/
  | notModelled (mnemonic : String)
  deriving DecidableEq, Repr

/-- What a step of this machine answers. -/
abbrev Outcome := Host.Outcome State Fault Refusal

end Sys2Proof.Machine
end

