-- ==== Sys2Proof/Machine/Flags.lean ====
section
/-! DEFINITION. The size hypothesis and the one status flag `FB.avail`: the procedure DERIVE, and the named buffer
states. -/

namespace Sys2Proof.Machine

open Sys2Proof

/-- The hypothesis a declared payload length `d` gives: `d + 2` when `0 < d ≤ FRAME_MAX_SIZE`, else unknown
(43_frame_buffer.md R111 step 1, 30_encoding.md R49, R54). -/
def sizeOfLengthByte (d : Byte) : Nat :=
  if 0 < d.toNat ∧ d.toNat ≤ Config.frameMaxSize then d.toNat + 2 else 0

/-- DERIVE step 1 (43_frame_buffer.md R111): only with no hypothesis cached and at least 3 bytes queued is the second
queued byte read. -/
def FrameBuffer.deriveSize (fb : FrameBuffer) : FrameBuffer :=
  if fb.size = 0 ∧ 3 ≤ fb.q.length then
    match fb.q[1]? with
    | some d => { fb with size := sizeOfLengthByte d }
    | none => fb
  else fb

/-- The condition of `FB.avail` (43_frame_buffer.md R111 step 2, 10_state.md R14). -/
def FrameBuffer.available (fb : FrameBuffer) : Bool :=
  decide ((fb.size ≠ 0 ∧ fb.size ≤ fb.q.length) ∨ Config.hardCap ≤ fb.q.length)

/-- DERIVE (43_frame_buffer.md R111): the size derivation, then the availability. -/
def FrameBuffer.derive (fb : FrameBuffer) : FrameBuffer :=
  { fb.deriveSize with avail := fb.deriveSize.available }

/-- The three conceptual states (10_state.md R14, 43_frame_buffer.md R116). -/
inductive BufferState where
  | empty
  | accumulating
  | frameReady
  deriving DecidableEq, Repr

/-- The conceptual state, a function of the buffer (10_state.md R14). -/
def FrameBuffer.bufferState (fb : FrameBuffer) : BufferState :=
  if fb.avail then .frameReady else if fb.q = [] then .empty else .accumulating

end Sys2Proof.Machine
end

