-- ==== Sys2Proof/Machine/Operands.lean ====
section
/-! DEFINITION. The operand ports: widths and lengths, slices and bytes of an image, lookups in the tables. -/

namespace Sys2Proof.Machine

open Sys2Proof

/-- `x` is representable in `w` bits, two's complement (92_eei_decisions.md D4). -/
def fitsSigned (w : Nat) (x : Int) : Bool :=
  decide (-(2 ^ (w - 1) : Int) ≤ x ∧ x < (2 ^ (w - 1) : Int))

/-- A length within an optional capacity (92_eei_decisions.md D6). -/
def withinCap (cap : Option Nat) (n : Nat) : Bool :=
  match cap with
  | none => true
  | some m => decide (n ≤ m)

/-- The port precondition of every envelope and dispatcher operand: at most 64 bytes (42_envelope.md, D6). -/
def imageFits (raw : List Byte) : Bool := decide (raw.length ≤ Config.frameMaxSize)

/-- The slice `b[i..j)` (00_scope.md R8). -/
def slice (b : List Byte) (i j : Nat) : List Byte := (b.drop i).take (j - i)

/-- `lookup(TYPE_REGISTRY, t)` (10_state.md R17, 00_scope.md R8). -/
def lookupType (p : Params) (t : Byte) : Option KindDesc :=
  (p.types.find? (fun e => e.1 == t)).map Prod.snd

/-- A lookup in `ADDRESS_REGISTRY`; a miss is `UnknownAddress` (42_envelope.md R88, R95, R96). -/
def lookupAddress (p : Params) (a : Byte) : Except ErrorKind Byte :=
  if p.addresses.contains a then .ok a else .error .unknownAddress

/-- A lookup in `XTYPE_REGISTRY`; a miss is `UnknownFrameType` (42_envelope.md R97, D11). -/
def lookupXtype (p : Params) (x : Byte) : Except ErrorKind Byte :=
  if p.xtypes.contains x then .ok x else .error .unknownFrameType

/-- The offset an `xdata_offset` stands for (10_state.md R17). -/
def xDataOffsetValue : XDataOffset → Nat
  | .six => 6
  | .five => 5

/-- The `payload` field of the data model, `raw[3..len−1)` (42_envelope.md R101): returned by no operation. -/
def payloadField (raw : List Byte) : List Byte := slice raw 3 (raw.length - 1)

/-- `frame_size()` of an image as a kind (42_envelope.md R93). -/
def frameSizeOf (k : Option KindDesc) (raw : List Byte) : Nat :=
  match k with
  | some d => d.fixedSize.getD raw.length
  | none => raw.length

/-- The descriptor of a frame's concrete kind: the registry entry of its type byte; none for `RAW` (10_state.md R21). -/
def Frame.desc (p : Params) (f : Frame) : Option KindDesc :=
  match f.kind with
  | .raw => none
  | .named _ => (f.raw[2]?).bind (lookupType p)

/-- The derived attribute `frame_size` of a frame (44_dispatcher.md R128). -/
def Frame.frameSize (p : Params) (f : Frame) : Nat := frameSizeOf (f.desc p) f.raw

/-- The derived attribute `telemetry` of a frame (44_dispatcher.md R128); a free value where the descriptor leaves it
unspecified and for `RAW` (U13, log entry 6). -/
def Frame.telemetry (p : Params) (f : Frame) : Bool :=
  match (f.desc p).bind KindDesc.telemetry with
  | some b => b
  | none => Config.freeTelemetry f.kind f.raw

end Sys2Proof.Machine
end

