-- ==== Sys2Proof/Machine/Ops.lean ====
section
/-! DEFINITION. The operations shared by the meanings: the queue primitives, the ends of an operation, taking the next
request, flush and resynchronization, and the recovery sequence that stands for taking an exception. -/

namespace Sys2Proof.Machine

open Sys2Proof

/-! The queue primitives (20_memory.md R33). -/

/-- `q_append(b)`. -/
def FrameBuffer.qAppend (fb : FrameBuffer) (b : List Byte) : FrameBuffer := { fb with q := fb.q ++ b }

/-- `q_take(n)`, for `n ≤ |FB.Q|`: the bytes taken and the queue left. -/
def FrameBuffer.qTake (fb : FrameBuffer) (n : Nat) : List Byte × FrameBuffer :=
  (fb.q.take n, { fb with q := fb.q.drop n })

/-! The ends of an operation (10_state.md R19, R20). -/

/-- The state when an operation has ended with status `st` and result `r`: the answer is at the response port and the
operand images are gone (10_state.md R20 "none persists"). -/
def State.done (s : State) (st : Status) (r : Result) : State :=
  { s with ops := Operands.idle, response := some ⟨st, r⟩ }

/-- The operation ends with status `OK` and result `r`. -/
def State.succeed (s : State) (r : Result) : Outcome := .next (s.done .ok r)

/-- `raise E` (00_scope.md R8, 60_exceptions.md R150): the operation ends with error kind `e`, no result and no other
effect. -/
def State.raise (s : State) (e : ErrorKind) : Outcome := .next (s.done (.error e) .nothing)

/-- `refuse` (00_scope.md R8, 60_exceptions.md R142): no state written, no result; the block goes on (log entry 3). -/
def State.refuse (s : State) : Outcome := .next (s.done .refused .nothing)

/-- The operation ends as its rule body answers. -/
def State.answer (s : State) : Except ErrorKind Result → Outcome
  | .ok r => s.succeed r
  | .error e => s.raise e

/-- A rule body behind its port checks: `Refused` wins over every error kind (60_exceptions.md R144). -/
def State.guarded (s : State) (fits : Bool) (body : Except ErrorKind Result) : Outcome :=
  if fits then s.answer body else s.refuse

/-- An accessor of image byte `i`: refused when the operand is over 64 bytes or lacks that byte (42_envelope.md R88 to
R92, R95 to R97; U12). -/
def State.readImageByte (s : State) (i : Nat) (body : Byte → Except ErrorKind Result) : Outcome :=
  match s.ops.raw[i]? with
  | some b => s.guarded (imageFits s.ops.raw) (body b)
  | none => s.refuse

/-- The host's next request is taken: its operand images stand at the operand ports (92_eei_decisions.md D1). -/
def State.accept (s : State) (r : Request) (rest : List Request) : State :=
  { s with requests := rest, ops := r.operands }

/-! Flush and resynchronization (43_frame_buffer.md R114, R115). -/

/-- `FB_FLUSH` (43_frame_buffer.md R115). -/
def FrameBuffer.flush (_ : FrameBuffer) : FrameBuffer := FrameBuffer.empty

/-- The loop of `FB_RESYNC` (43_frame_buffer.md R114) on the queue `q`: drop the head without looking at it, then look
at the new head; flushed when the queue is exhausted. -/
def resyncLoop (marker : Byte) : List Byte → Bool × FrameBuffer
  | [] => (false, FrameBuffer.empty)
  | _ :: rest =>
    if rest.head? = some marker then (true, (FrameBuffer.mk rest 0 false).derive)
    else resyncLoop marker rest

/-- `FB_RESYNC` (43_frame_buffer.md R114): the hypothesis is cleared first (D12), so only the queue matters; whether the
marker was found, and the buffer left. -/
def FrameBuffer.resync (marker : Byte) (fb : FrameBuffer) : Bool × FrameBuffer := resyncLoop marker fb.q

/-! The counters (10_state.md R16, 60_exceptions.md R148). -/

/-- `2^CNT_W − 1`, the largest value of a counter. -/
def counterMax (p : Params) : Nat := 2 ^ p.cntW - 1

/-- A counter plus one; none when that would pass `2^CNT_W − 1` (45_processor.md R132(f), D20). -/
def countUp (p : Params) (n : Nat) : Option Nat := if n < counterMax p then some (n + 1) else none

/-- Taking an exception, as far as the block has one (60_exceptions.md R145): the image is already out of the queue,
`PR.errors` counts one, the buffer resynchronizes. None when the counter refuses. There is nothing to save (R145) and
nothing to return to (R146): the drain loop looks at `FB.avail` again. -/
def Processor.recover (p : Params) (pr : Processor) : Option Processor :=
  match countUp p pr.errors with
  | some n => some { pr with errors := n, fb := (pr.fb.resync p.marker).2 }
  | none => none

end Sys2Proof.Machine
end

