-- ==== Sys2Proof/Machine/Channel.lean ====
section
/-! DEFINITION. The Channel Codec (41_channel_codec.md): `CH_PACK`, `CH_UNPACK`, `CH_P2US`, `CH_US2P`. -/

namespace Sys2Proof.Machine

open Sys2Proof

/-- `v & 0x7FF` of a two's-complement integer (41_channel_codec.md R73, 30_encoding.md R50). -/
def mask11 (v : Int) : Nat := (v % 2 ^ Config.chW).toNat

/-- The inner loop of `CH_PACK`: the low byte of the accumulator, `n` times (41_channel_codec.md R73). -/
def emitBytes : Nat → Nat → List Byte
  | 0, _ => []
  | n + 1, acc => BitVec.ofNat 8 acc :: emitBytes n (acc >>> 8)

/-- The loop of `CH_PACK` over the channels, with `nbits` bits waiting in `acc`; the inner loop runs `nbits div 8` times;
the last arm is the general flush step, dead for 16 channels (41_channel_codec.md R73, D31). -/
def packLoop : List Int → Nat → Nat → List Byte
  | [], acc, nbits => if 0 < nbits then [BitVec.ofNat 8 acc] else []
  | c :: cs, acc, nbits =>
    let acc' := acc ||| (mask11 c <<< nbits)
    let nbits' := nbits + Config.chW
    emitBytes (nbits' / 8) acc' ++ packLoop cs (acc' >>> (8 * (nbits' / 8))) (nbits' % 8)

/-- The body of `CH_PACK` (41_channel_codec.md R73). -/
def chPack (ch : List Int) : List Byte := packLoop ch 0 0

/-- The inner loop of `CH_UNPACK`, `n` bytes read: the accumulator, the bit count and the bytes left
(41_channel_codec.md R74). -/
def fillBytes : Nat → List Byte → Nat → Nat → Nat × Nat × List Byte
  | 0, pk, acc, nbits => (acc, nbits, pk)
  | _ + 1, [], acc, nbits => (acc, nbits, [])
  | n + 1, b :: pk, acc, nbits => fillBytes n pk (acc ||| (b.toNat <<< nbits)) (nbits + 8)

/-- The loop of `CH_UNPACK` for `n` channels; the inner loop reads as many bytes as `nbits < 11` asks for
(41_channel_codec.md R74). -/
def unpackLoop : Nat → List Byte → Nat → Nat → List Int
  | 0, _, _, _ => []
  | n + 1, pk, acc, nbits =>
    let f := fillBytes ((Config.chW - nbits + 7) / 8) pk acc nbits
    ((f.1 % 2 ^ Config.chW : Nat) : Int) :: unpackLoop n f.2.2 (f.1 >>> Config.chW) (f.2.1 - Config.chW)

/-- The body of `CH_UNPACK` on a 22-byte image (41_channel_codec.md R74). -/
def chUnpack (pk : List Byte) : List Int := unpackLoop Config.nCh pk 0 0

/-- The body of `CH_P2US` (41_channel_codec.md R76): exact rationals, rounded to nearest (R78). -/
def p2us (v : Int) : Except ErrorKind Int :=
  if v = Config.failsafeProto then .ok Config.failsafeUs
  else if v < Config.protoMin ∨ Config.protoMax < v then .error .conversionOutOfRange
  else .ok ((Config.scaleNum * v + Config.offsetNum + 62) / Config.convDen)

/-- The tie of `CH_US2P`: `q + 1/2` rounded by `TIE_RULE` (41_channel_codec.md R77, D7; half-up is away from zero there,
log entry 13). -/
def roundTie (t : TieRule) (q : Int) : Int :=
  match t with
  | .even => if q % 2 = 0 then q else q + 1
  | .halfUp => if q < 0 then q else q + 1

/-- `round(n / 78)` (41_channel_codec.md R77). -/
def roundQuotient (t : TieRule) (n : Int) : Int :=
  let q := n / Config.scaleNum
  let r := n % Config.scaleNum
  if Config.scaleNum < 2 * r then q + 1
  else if 2 * r < Config.scaleNum then q
  else roundTie t q

/-- The body of `CH_US2P` (41_channel_codec.md R77): the range check is on the result. -/
def us2p (t : TieRule) (us : Int) : Except ErrorKind Int :=
  if us = Config.failsafeUs then .ok Config.failsafeProto
  else
    let v := roundQuotient t (Config.convDen * us - Config.offsetNum)
    if v < Config.protoMin ∨ Config.protoMax < v then .error .conversionOutOfRange else .ok v

/-- The port checks of `CH_PACK`: sixteen values (U9), each within `VAL_W` (D4, log entry 9). -/
def chPackFits (p : Params) (o : Operands) : Bool :=
  decide (o.ch.length = Config.nCh) && o.ch.all (fitsSigned p.valW)

/-- `CH_PACK ch[0..15] -> pk[0..21]` (41_channel_codec.md R73). -/
def execChPack (s : State) : Outcome :=
  s.guarded (chPackFits s.params s.ops) (.ok (.bytes (chPack s.ops.ch)))

/-- `CH_UNPACK pk[0..21] -> ch[0..15]` (41_channel_codec.md R74, D8). -/
def execChUnpack (s : State) : Outcome :=
  s.guarded (decide (s.ops.pk.length = Config.chBytes)) (.ok (.ints (chUnpack s.ops.pk)))

/-- `CH_P2US v -> us` (41_channel_codec.md R76). -/
def execChP2us (s : State) : Outcome :=
  s.guarded (fitsSigned s.params.valW s.ops.v) ((p2us s.ops.v).map .int)

/-- `CH_US2P us -> v` (41_channel_codec.md R77). -/
def execChUs2p (s : State) : Outcome :=
  s.guarded (fitsSigned s.params.valW s.ops.us) ((us2p s.params.tieRule s.ops.us).map .int)

end Sys2Proof.Machine
end

