-- ==== Sys2Proof/Machine/Buffer.lean ====
section
/-! DEFINITION. The Frame Buffer (43_frame_buffer.md): `FB_ADD`, `FB_GET`, `FB_RESYNC`, `FB_FLUSH`. -/

namespace Sys2Proof.Machine

open Sys2Proof

/-- The body of `FB_ADD` (43_frame_buffer.md R112): none when the chunk would exceed `Q_CAP`. An empty chunk is a
no-op; not even DERIVE runs. -/
def FrameBuffer.add (p : Params) (chunk : List Byte) (fb : FrameBuffer) : Option FrameBuffer :=
  if chunk = [] then some fb
  else if withinCap p.qCap (fb.q.length + chunk.length) then some (fb.qAppend chunk).derive
  else none

/-- The first test of `FB_GET` (43_frame_buffer.md R113): the hypothesis is unset, too large, or not yet met. -/
def FrameBuffer.mustResync (fb : FrameBuffer) : Bool :=
  decide (fb.size = 0 ∨ Config.frameMaxSize < fb.size ∨ fb.q.length < fb.size)

/-- The pop of `FB_GET` (43_frame_buffer.md R113): exactly `FB.S` bytes, the hypothesis reset, the remainder derived. -/
def FrameBuffer.pop (fb : FrameBuffer) : List Byte × FrameBuffer :=
  ((fb.qTake fb.size).1, { (fb.qTake fb.size).2 with size := 0 }.derive)

/-- `FB_GET` with at most `n` retries; every retry follows a dropped byte (43_frame_buffer.md R113(b)). -/
def FrameBuffer.getWithin (marker : Byte) : Nat → FrameBuffer → Option (List Byte) × FrameBuffer
  | 0, fb => (none, fb)
  | n + 1, fb =>
    if fb.mustResync then
      if (fb.resync marker).1 then FrameBuffer.getWithin marker n (fb.resync marker).2
      else (none, (fb.resync marker).2)
    else (some fb.pop.1, fb.pop.2)

/-- The body of `FB_GET` (43_frame_buffer.md R113). `|FB.Q| + 1` tests are enough: each resynchronization that finds a
marker removes at least one byte. -/
def FrameBuffer.get (marker : Byte) (fb : FrameBuffer) : Option (List Byte) × FrameBuffer :=
  FrameBuffer.getWithin marker (fb.q.length + 1) fb

/-- The state with its Frame Buffer replaced; the counters and everything else stay. -/
def State.withBuffer (s : State) (fb : FrameBuffer) : State := { s with pr := { s.pr with fb := fb } }

/-- An extraction as a result: the image, or `none`. -/
def imageResult : Option (List Byte) → Result
  | some raw => .bytes raw
  | none => .absent

/-- `FB_ADD chunk` (43_frame_buffer.md R112). -/
def execFbAdd (s : State) : Outcome :=
  match s.pr.fb.add s.params s.ops.chunk with
  | some fb => (s.withBuffer fb).succeed .nothing
  | none => s.refuse

/-- `FB_GET -> raw | none` (43_frame_buffer.md R113). -/
def execFbGet (s : State) : Outcome :=
  (s.withBuffer (s.pr.fb.get s.params.marker).2).succeed (imageResult (s.pr.fb.get s.params.marker).1)

/-- `FB_RESYNC -> found | not_found` (43_frame_buffer.md R114). -/
def execFbResync (s : State) : Outcome :=
  (s.withBuffer (s.pr.fb.resync s.params.marker).2).succeed (.found (s.pr.fb.resync s.params.marker).1)

/-- `FB_FLUSH` (43_frame_buffer.md R115). -/
def execFbFlush (s : State) : Outcome := (s.withBuffer s.pr.fb.flush).succeed .nothing

end Sys2Proof.Machine
end

