-- ==== Sys2Proof/Machine/Checksum.lean ====
section
/-! DEFINITION. The Checksum Engine (40_checksum.md): `CRC8`. -/

namespace Sys2Proof.Machine

open Sys2Proof

/-- One of the eight iterations: the top bit decides whether the shifted accumulator is XORed with the polynomial
(40_checksum.md R65). -/
def crcShift (poly acc : Byte) : Byte := if acc.msb then (acc <<< 1) ^^^ poly else acc <<< 1

/-- `n` iterations (40_checksum.md R65). -/
def crcShifts (poly : Byte) : Nat → Byte → Byte
  | 0, acc => acc
  | n + 1, acc => crcShifts poly n (crcShift poly acc)

/-- The byte step `step_poly(a, b)` (40_checksum.md R66). -/
def crcStep (poly a b : Byte) : Byte := crcShifts poly 8 (a ^^^ b)

/-- The fold over a byte sequence, from the seed (40_checksum.md R65, R66). -/
def crcFold (poly : Byte) (bs : List Byte) : Byte := bs.foldl (crcStep poly) Config.crcSeed

/-- The body of `CRC8` (40_checksum.md R65). -/
def crc8 (poly : Byte) (data : List Byte) (start stop : Int) : Except ErrorKind Byte :=
  if stop ≤ start ∨ start < 0 ∨ (data.length : Int) < stop then .error .invalidRange
  else .ok (crcFold poly (slice data start.toNat stop.toNat))

/-- The port checks of `CRC8` (40_checksum.md R72). -/
def crc8Fits (p : Params) (o : Operands) : Bool :=
  withinCap p.dataMax o.data.length && fitsSigned p.idxW o.start && fitsSigned p.idxW o.stop

/-- `CRC8 poly, data, start, end -> c` (40_checksum.md R65, R72). -/
def execCrc8 (s : State) : Outcome :=
  s.guarded (crc8Fits s.params s.ops) ((crc8 s.ops.poly s.ops.data s.ops.start s.ops.stop).map .byte)

end Sys2Proof.Machine
end

