-- ==== Sys2Proof/Machine/Envelope.lean ====
section
/-! DEFINITION. The Frame Envelope and the Extended Envelope (42_envelope.md). Every operation here is refused on an
image of more than 64 bytes. -/

namespace Sys2Proof.Machine

open Sys2Proof

/-- The body of `ENV_NEW` (42_envelope.md R86): the checksum over `raw[2..len−1)` before the last byte is read. -/
def envNew (raw : List Byte) : Except ErrorKind Unit :=
  match crc8 Config.polyProd raw 2 ((raw.length : Int) - 1) with
  | .error e => .error e
  | .ok c => if raw[raw.length - 1]? = some c then .ok () else .error .corruptedFrame

/-- The body of `ENV_NEW_RAW` (42_envelope.md R87): no check at all (D19). -/
def envNewRaw (_ : List Byte) : Except ErrorKind Unit := .ok ()

/-- The body of `XENV_NEW` (42_envelope.md R94): the base construction first, then the minimum size (D10). -/
def xenvNew (raw : List Byte) : Except ErrorKind Unit :=
  match envNew raw with
  | .error e => .error e
  | .ok _ => if raw.length < Config.extMinSize then .error .invalidLength else .ok ()

/-- The body of `ENV_BUILD` (42_envelope.md R99). -/
def envBuild (addr type : Byte) (payload : List Byte) : Except ErrorKind (List Byte) :=
  let total := payload.length + 4
  if Config.frameMaxSize < total then .error .invalidLength
  else
    let body := type :: payload
    match crc8 Config.polyProd body 0 ((payload.length : Int) + 1) with
    | .error e => .error e
    | .ok c => .ok ([addr, BitVec.ofNat 8 (total - 2)] ++ body ++ [c])

/-- The descriptor in a kind operand, none for `RAW`. -/
def kindOperandDesc : KindOperand → Option KindDesc
  | .raw => none
  | .desc d => some d

/-- The body of `XENV_DATA` behind its checks: the offset where the payload starts, none when the operand is no kind of
class EXTENDED (42_envelope.md R98; log entry 10). -/
def xenvOffset : KindOperand → Option Nat
  | .desc d =>
    match d.cls with
    | .extended o => some (xDataOffsetValue o)
    | .base => none
  | .raw => none

/-- `ENV_NEW raw -> status` (42_envelope.md R86). -/
def execEnvNew (s : State) : Outcome :=
  s.guarded (imageFits s.ops.raw) ((envNew s.ops.raw).map fun _ => .nothing)

/-- `ENV_NEW_RAW raw -> status` (42_envelope.md R87). -/
def execEnvNewRaw (s : State) : Outcome :=
  s.guarded (imageFits s.ops.raw) ((envNewRaw s.ops.raw).map fun _ => .nothing)

/-- `ENV_ADDR raw -> a` (42_envelope.md R88). -/
def execEnvAddr (s : State) : Outcome :=
  s.readImageByte 0 fun a => (lookupAddress s.params a).map .byte

/-- `ENV_LEN raw -> L` (42_envelope.md R89). -/
def execEnvLen (s : State) : Outcome :=
  s.readImageByte 1 fun l => .ok (.byte l)

/-- `ENV_TYPE raw -> t`, and through `TYPE_REGISTRY` the kind descriptor (42_envelope.md R90). -/
def execEnvType (s : State) : Outcome :=
  s.readImageByte 2 fun t =>
    match lookupType s.params t with
    | some d => .ok (.typed t d)
    | none => .error .unknownFrameType

/-- `ENV_DATA raw -> bytes`: `raw[2..len)`, type and checksum bytes included (42_envelope.md R91, C1). -/
def execEnvData (s : State) : Outcome :=
  s.guarded (imageFits s.ops.raw && decide (2 ≤ s.ops.raw.length))
    (.ok (.bytes (slice s.ops.raw 2 s.ops.raw.length)))

/-- `ENV_CSUM raw -> c`: the stored last byte (42_envelope.md R92). -/
def execEnvCsum (s : State) : Outcome :=
  s.readImageByte (s.ops.raw.length - 1) fun c => .ok (.byte c)

/-- `ENV_SIZE raw, kind -> n` (42_envelope.md R93). -/
def execEnvSize (s : State) : Outcome :=
  s.guarded (imageFits s.ops.raw) (.ok (.int (frameSizeOf (kindOperandDesc s.ops.kind) s.ops.raw)))

/-- `ENV_BUILD addr, type, payload -> raw` (42_envelope.md R99): refused on a payload over `DATA_MAX` first
(60_exceptions.md R144). -/
def execEnvBuild (s : State) : Outcome :=
  s.guarded (withinCap s.params.dataMax s.ops.payload.length)
    ((envBuild s.ops.addr s.ops.type s.ops.payload).map .bytes)

/-- `XENV_NEW raw -> status` (42_envelope.md R94). -/
def execXenvNew (s : State) : Outcome :=
  s.guarded (imageFits s.ops.raw) ((xenvNew s.ops.raw).map fun _ => .nothing)

/-- `XENV_DEST raw -> a` (42_envelope.md R95). -/
def execXenvDest (s : State) : Outcome :=
  s.readImageByte 3 fun a => (lookupAddress s.params a).map .byte

/-- `XENV_SRC raw -> a` (42_envelope.md R96). -/
def execXenvSrc (s : State) : Outcome :=
  s.readImageByte 4 fun a => (lookupAddress s.params a).map .byte

/-- `XENV_XTYPE raw -> x` (42_envelope.md R97). -/
def execXenvXtype (s : State) : Outcome :=
  s.readImageByte 5 fun x => (lookupXtype s.params x).map .byte

/-- `XENV_DATA raw, kind -> bytes`: `raw[o..len)` (42_envelope.md R98). -/
def execXenvData (s : State) : Outcome :=
  match xenvOffset s.ops.kind with
  | some o =>
    s.guarded (imageFits s.ops.raw && decide (o ≤ s.ops.raw.length))
      (.ok (.bytes (slice s.ops.raw o s.ops.raw.length)))
  | none => s.refuse

end Sys2Proof.Machine
end

