-- ==== Sys2Proof/Machine/Dispatcher.lean ====
section
/-! DEFINITION. The Frame Dispatcher (44_dispatcher.md): `DISP_GEN`, and the decode of the two attested type bytes. -/

namespace Sys2Proof.Machine

open Sys2Proof

/-- How the dispatcher decodes a type byte (44_dispatcher.md R125): a handled kind's descriptor, none for the raw
fallback, or `UnknownFrameType`. -/
def dispatchType (p : Params) (t : Byte) : Except ErrorKind (Option KindDesc) :=
  match lookupType p t with
  | none =>
    match p.unknownType with
    | .error => .error .unknownFrameType
    | .rawFallback => .ok none
  | some k => if k.handled then .ok (some k) else .ok none

/-- What else a kind's constructor verifies (44_dispatcher.md R126 step 3); none is ok. -/
def runExtraCheck (c : ExtraCheck) (raw : List Byte) : Option ErrorKind :=
  match c with
  | .ok => none
  | .body n => Config.extraCheck n raw

/-- `raw.len() < frame_size()` for a kind that checks it (44_dispatcher.md R126 step 2; log entry 11 for a kind without a
fixed size). -/
def tooShort (k : KindDesc) (raw : List Byte) : Bool :=
  k.checkMinLen && decide (raw.length < frameSizeOf (some k) raw)

/-- The envelope construction of a kind's class (44_dispatcher.md R126 step 1). -/
def classNew (c : FrameClass) (raw : List Byte) : Except ErrorKind Unit :=
  match c with
  | .base => envNew raw
  | .extended _ => xenvNew raw

/-- `CONCRETE(k, raw)` (44_dispatcher.md R126): the first failing check is the result. -/
def concrete (k : KindDesc) (raw : List Byte) : Except ErrorKind Frame :=
  match classNew k.cls raw with
  | .error e => .error e
  | .ok _ =>
    if tooShort k raw then .error .invalidLength
    else
      match runExtraCheck k.extraCheck raw with
      | some e => .error e
      | none => .ok ⟨.named k.name, raw⟩

/-- `RAW_FRAME(raw)` (44_dispatcher.md R127): `ENV_NEW_RAW`, which accepts everything. -/
def rawFrame (raw : List Byte) : Except ErrorKind Frame :=
  match envNewRaw raw with
  | .error e => .error e
  | .ok _ => .ok ⟨.raw, raw⟩

/-- The body of `DISP_GEN` (44_dispatcher.md R125). -/
def dispGen (p : Params) (raw : List Byte) : Except ErrorKind Frame :=
  if raw.length < 3 then .error .invalidLength
  else
    match raw[2]? with
    | none => .error .invalidLength
    | some t =>
      match dispatchType p t with
      | .error e => .error e
      | .ok none => rawFrame raw
      | .ok (some k) => concrete k raw

/-- `DISP_GEN raw -> Frame` (44_dispatcher.md R125). -/
def execDispGen (s : State) : Outcome :=
  s.guarded (imageFits s.ops.raw) ((dispGen s.params s.ops.raw).map .frame)

/-- The type byte `0x1E` decoded as the dispatcher decodes it (30_encoding.md R53, 44_dispatcher.md R125; log entry 4). -/
def execFrameAttitude (s : State) : Outcome :=
  s.answer ((dispatchType s.params 0x1E).map .kind)

/-- The type byte `0x07` decoded as the dispatcher decodes it (30_encoding.md R53, 44_dispatcher.md R125; log entry 4). -/
def execFrameVariometer (s : State) : Outcome :=
  s.answer ((dispatchType s.params 0x07).map .kind)

end Sys2Proof.Machine
end

