-- ==== Sys2Proof/Machine/Processing.lean ====
section
/-! DEFINITION. The Frame Processor (45_processor.md): `PR_PROCESS`, `PR_BUILD`, `PR_FLUSH`, `PR_RSTAT`, `PR_ERATE`. -/

namespace Sys2Proof.Machine

open Sys2Proof

/-- The errors the processor counts and recovers from (45_processor.md R132, 60_exceptions.md R140 column class). -/
def ErrorKind.counted : ErrorKind → Bool
  | .corruptedFrame => true
  | .unknownAddress => true
  | .unknownFrameType => true
  | .invalidLength => true
  | .conversionOutOfRange => false
  | .invalidRange => false

/-- The processor with its Frame Buffer replaced. -/
def Processor.withBuffer (pr : Processor) (fb : FrameBuffer) : Processor := { pr with fb := fb }

/-- What `PR_BUILD` does with the answer of the dispatcher (45_processor.md R132): none is a refused counter. -/
def Processor.settle (p : Params) (pr : Processor) : Except ErrorKind Frame → Option (Option Frame × Processor)
  | .ok f =>
    match countUp p pr.processed with
    | some n => some (some f, { pr with processed := n })
    | none => none
  | .error e =>
    if ErrorKind.counted e then
      match pr.recover p with
      | some pr' => some (none, pr')
      | none => none
    else some (none, pr)

/-- The body of `PR_BUILD` (45_processor.md R132): none when a counter refuses, and then the whole operation is refused
(R132(f)). -/
def Processor.build (p : Params) (pr : Processor) : Option (Option Frame × Processor) :=
  match pr.fb.get p.marker with
  | (none, fb) => some (none, pr.withBuffer fb)
  | (some raw, fb) => (pr.withBuffer fb).settle p (dispGen p raw)

/-- The drain loop of `PR_PROCESS` (45_processor.md R131) with at most `n` rounds; the frames delivered, in order. -/
def Processor.drainWithin (p : Params) : Nat → Processor → Option (List Frame × Processor)
  | 0, pr => some ([], pr)
  | n + 1, pr =>
    if pr.fb.avail then
      match pr.build p with
      | none => none
      | some (f, pr') =>
        match Processor.drainWithin p n pr' with
        | none => none
        | some (fs, pr'') => some (f.toList ++ fs, pr'')
    else some ([], pr)

/-- The drain loop (45_processor.md R131). `|FB.Q| + 1` rounds are enough: each removes a byte (R136). -/
def Processor.drain (p : Params) (pr : Processor) : Option (List Frame × Processor) :=
  Processor.drainWithin p (pr.fb.q.length + 1) pr

/-- The body of `PR_PROCESS` (45_processor.md R131): none when `FB_ADD` or a counter refuses. -/
def Processor.process (p : Params) (chunk : List Byte) (pr : Processor) : Option (List Frame × Processor) :=
  match pr.fb.add p chunk with
  | none => none
  | some fb => (pr.withBuffer fb).drain p

/-- The body of `PR_ERATE` (45_processor.md R135). -/
def errorRate (processed errors : Nat) : Nat :=
  if processed = 0 then 0 else errors * 100 / processed

/-- A build as a result: the frame, or `none`. -/
def frameResult : Option Frame → Result
  | some f => .frame f
  | none => .absent

/-- `PR_PROCESS chunk` (45_processor.md R131): the frames appear at the sink; refused whole (log entry 8). -/
def execPrProcess (s : State) : Outcome :=
  match s.pr.process s.params s.ops.chunk with
  | none => s.refuse
  | some (fs, pr) => { s with pr := pr, sink := s.sink ++ fs }.succeed .nothing

/-- `PR_BUILD -> Frame | none` (45_processor.md R132). -/
def execPrBuild (s : State) : Outcome :=
  match s.pr.build s.params with
  | none => s.refuse
  | some (f, pr) => { s with pr := pr }.succeed (frameResult f)

/-- `PR_FLUSH` (45_processor.md R133): the buffer, not the counters. -/
def execPrFlush (s : State) : Outcome := (s.withBuffer s.pr.fb.flush).succeed .nothing

/-- `PR_RSTAT` (45_processor.md R134): the counters, not the buffer. -/
def execPrRstat (s : State) : Outcome := { s with pr := { s.pr with processed := 0, errors := 0 } }.succeed .nothing

/-- `PR_ERATE -> rate` (45_processor.md R135). -/
def execPrErate (s : State) : Outcome := s.succeed (.int (errorRate s.pr.processed s.pr.errors))

end Sys2Proof.Machine
end

