-- ==== Sys2Proof/Machine/Dispatch.lean ====
section
/-! DEFINITION. Every instruction to its meaning. -/

namespace Sys2Proof.Machine

open Sys2Proof

def exec (i : Instr) (s : State) : Host.Outcome State Fault Refusal :=
  match i with
  | .crc8 => Sys2Proof.Machine.execCrc8 s
  | .chPack => Sys2Proof.Machine.execChPack s
  | .chUnpack => Sys2Proof.Machine.execChUnpack s
  | .chP2us => Sys2Proof.Machine.execChP2us s
  | .chUs2p => Sys2Proof.Machine.execChUs2p s
  | .envNew => Sys2Proof.Machine.execEnvNew s
  | .envNewRaw => Sys2Proof.Machine.execEnvNewRaw s
  | .envAddr => Sys2Proof.Machine.execEnvAddr s
  | .envLen => Sys2Proof.Machine.execEnvLen s
  | .envType => Sys2Proof.Machine.execEnvType s
  | .envData => Sys2Proof.Machine.execEnvData s
  | .envCsum => Sys2Proof.Machine.execEnvCsum s
  | .envSize => Sys2Proof.Machine.execEnvSize s
  | .envBuild => Sys2Proof.Machine.execEnvBuild s
  | .xenvNew => Sys2Proof.Machine.execXenvNew s
  | .xenvDest => Sys2Proof.Machine.execXenvDest s
  | .xenvSrc => Sys2Proof.Machine.execXenvSrc s
  | .xenvXtype => Sys2Proof.Machine.execXenvXtype s
  | .xenvData => Sys2Proof.Machine.execXenvData s
  | .fbAdd => Sys2Proof.Machine.execFbAdd s
  | .fbGet => Sys2Proof.Machine.execFbGet s
  | .fbResync => Sys2Proof.Machine.execFbResync s
  | .fbFlush => Sys2Proof.Machine.execFbFlush s
  | .dispGen => Sys2Proof.Machine.execDispGen s
  | .prProcess => Sys2Proof.Machine.execPrProcess s
  | .prBuild => Sys2Proof.Machine.execPrBuild s
  | .prFlush => Sys2Proof.Machine.execPrFlush s
  | .prRstat => Sys2Proof.Machine.execPrRstat s
  | .prErate => Sys2Proof.Machine.execPrErate s
  | .frameAttitude => Sys2Proof.Machine.execFrameAttitude s
  | .frameVariometer => Sys2Proof.Machine.execFrameVariometer s

end Sys2Proof.Machine
end

