-- ==== Sys2Proof/WellFormed.lean ====
section
/-! DEFINITION. Which words the opcode table assigns, and which parameter sets satisfy the spec's constraints. -/

namespace Sys2Proof

/-- How many functions the unit with this number has (30_encoding.md R51, R52). -/
def unitFunctions : Nat → Nat
  | 1 => 1
  | 2 => 4
  | 3 => 9
  | 4 => 5
  | 5 => 4
  | 6 => 1
  | 7 => 5
  | _ => 0

/-- A word that is a row of the opcode table: a command byte with `function < unitFunctions unit` (30_encoding.md R51,
R52), or one of the two attested type bytes (R53). -/
def Word.wellFormed : Word → Bool
  | .cmd8 b => decide (b.toNat % 16 < unitFunctions (b.toNat / 16))
  | .frameType b => b == 0x1E || b == 0x07

/-- A handled kind that checks its minimum length has a fixed size to check against (10_state.md R17). -/
def KindDesc.wellFormed (k : KindDesc) : Bool :=
  !(k.handled && k.checkMinLen) || k.fixedSize.isSome

/-- The bound of an optional capacity: absent, or at least `n`. -/
def atLeast (n : Nat) : Option Nat → Bool
  | none => true
  | some m => decide (n ≤ m)

/-- The constraints of 92_eei_decisions.md, "Open parameters, collected": `DATA_MAX ≥ 64`, `Q_CAP ≥ 130`, `CNT_W ≥ 1`,
`VAL_W ≥ 13`, type codes unique, each descriptor well formed. -/
def Params.wellFormed (p : Params) : Bool :=
  atLeast 64 p.dataMax && atLeast 130 p.qCap && decide (1 ≤ p.cntW) && decide (13 ≤ p.valW) &&
    decide ((p.types.map Prod.fst).Nodup) && p.types.all (fun e => e.2.wellFormed)

end Sys2Proof
end

