-- ==== Sys2Proof/Decode.lean ====
section
/-! DEFINITION. The decoder of the two word formats, total and rejecting by name, and the encoder. -/

namespace Sys2Proof

/-- Why a word is no row of the table. -/
inductive DecodeReject where
  /-- a command byte that is not in 30_encoding.md R52 (R55(e), U1) -/
  | unassignedCommand (b : Byte)
  /-- a type byte the table has no row for (30_encoding.md R53: all others are registry parameters) -/
  | unlistedTypeByte (b : Byte)
  deriving DecidableEq, Repr

/-- `unit = bits[7:4]` (30_encoding.md R51). -/
def cmdUnit (b : Byte) : Nat := b.toNat / 16

/-- `function = bits[3:0]` (30_encoding.md R51). -/
def cmdFunction (b : Byte) : Nat := b.toNat % 16

/-- The opcode map of 30_encoding.md R52, by unit and function. -/
def decodeCmd8 (b : Byte) : Except DecodeReject Instr :=
  match cmdUnit b, cmdFunction b with
  | 1, 0 => .ok .crc8
  | 2, 0 => .ok .chPack
  | 2, 1 => .ok .chUnpack
  | 2, 2 => .ok .chP2us
  | 2, 3 => .ok .chUs2p
  | 3, 0 => .ok .envNew
  | 3, 1 => .ok .envNewRaw
  | 3, 2 => .ok .envAddr
  | 3, 3 => .ok .envLen
  | 3, 4 => .ok .envType
  | 3, 5 => .ok .envData
  | 3, 6 => .ok .envCsum
  | 3, 7 => .ok .envSize
  | 3, 8 => .ok .envBuild
  | 4, 0 => .ok .xenvNew
  | 4, 1 => .ok .xenvDest
  | 4, 2 => .ok .xenvSrc
  | 4, 3 => .ok .xenvXtype
  | 4, 4 => .ok .xenvData
  | 5, 0 => .ok .fbAdd
  | 5, 1 => .ok .fbGet
  | 5, 2 => .ok .fbResync
  | 5, 3 => .ok .fbFlush
  | 6, 0 => .ok .dispGen
  | 7, 0 => .ok .prProcess
  | 7, 1 => .ok .prBuild
  | 7, 2 => .ok .prFlush
  | 7, 3 => .ok .prRstat
  | 7, 4 => .ok .prErate
  | _, _ => .error (.unassignedCommand b)

/-- The type bytes the table lists (30_encoding.md R53, 00_scope.md R7). -/
def decodeTypeByte (b : Byte) : Except DecodeReject Instr :=
  if b = 0x1E then .ok .frameAttitude
  else if b = 0x07 then .ok .frameVariometer
  else .error (.unlistedTypeByte b)

/-- The decoder: total on every word of either format. -/
def decode : Word → Except DecodeReject Instr
  | .cmd8 b => decodeCmd8 b
  | .frameType b => decodeTypeByte b

/-- The encoder: the word of each row, by its code in 30_encoding.md R52 and R53. -/
def encode : Instr → Word
  | .crc8 => .cmd8 0x10
  | .chPack => .cmd8 0x20
  | .chUnpack => .cmd8 0x21
  | .chP2us => .cmd8 0x22
  | .chUs2p => .cmd8 0x23
  | .envNew => .cmd8 0x30
  | .envNewRaw => .cmd8 0x31
  | .envAddr => .cmd8 0x32
  | .envLen => .cmd8 0x33
  | .envType => .cmd8 0x34
  | .envData => .cmd8 0x35
  | .envCsum => .cmd8 0x36
  | .envSize => .cmd8 0x37
  | .envBuild => .cmd8 0x38
  | .xenvNew => .cmd8 0x40
  | .xenvDest => .cmd8 0x41
  | .xenvSrc => .cmd8 0x42
  | .xenvXtype => .cmd8 0x43
  | .xenvData => .cmd8 0x44
  | .fbAdd => .cmd8 0x50
  | .fbGet => .cmd8 0x51
  | .fbResync => .cmd8 0x52
  | .fbFlush => .cmd8 0x53
  | .dispGen => .cmd8 0x60
  | .prProcess => .cmd8 0x70
  | .prBuild => .cmd8 0x71
  | .prFlush => .cmd8 0x72
  | .prRstat => .cmd8 0x73
  | .prErate => .cmd8 0x74
  | .frameAttitude => .frameType 0x1E
  | .frameVariometer => .frameType 0x07

/-- The word of the table that a number stands for: a type byte where the table lists it as one and not as a command,
else a command byte. No number is in both formats. -/
def tableWord (w : Nat) : Word :=
  let b := BitVec.ofNat 8 w
  match decodeTypeByte b with
  | .ok _ => .frameType b
  | .error _ => .cmd8 b

/-- The instruction the decoder reads from the one byte `w` of a table row; every row has 8 bits. -/
def decodeTableWord (nbits w : Nat) : Option Instr :=
  if nbits = 8 ∧ w < 256 then (decode (tableWord w)).toOption else none

end Sys2Proof
end

