-- ==== Sys2Proof/Machine/Fetch.lean ====
section
/-! DEFINITION. Taking the host's next request, and placing one. -/

namespace Sys2Proof.Machine

open Sys2Proof

/-- The next request's word and the state with its operand images at the ports; none when the host has issued no request
(92_eei_decisions.md D1, log entry 1). -/
def fetch (s : State) : Option (Word × State) :=
  match s.requests with
  | [] => none
  | r :: rest => some (r.word, s.accept r rest)

/-- The request that an instruction word of `nbits` bits makes when its operand words are zeros. -/
def zeroRequest (nbits w : Nat) : Request := ⟨tableWord (w % 2 ^ nbits), Operands.idle⟩

/-- The request put before every other the host has to issue. -/
def placeRequest (s : State) (r : Request) : State := { s with requests := r :: s.requests }

/-- A word that is no row of the table is refused with no state change (30_encoding.md R55(e), U1). -/
def refuseWord (_ : DecodeReject) (s : State) : Outcome := s.refuse

end Sys2Proof.Machine
end

