-- ==== Sys2Proof/Machine/Step.lean ====
section
/-! DEFINITION. One step of the block: one request of the host, from its acceptance to its answer. -/

namespace Sys2Proof.Machine

open Sys2Proof

/-- One operation, one transition (92_eei_decisions.md D1, 70_reset_and_hazards.md R188). With no request the block
waits and nothing changes (R167). -/
def step (s : State) : Host.Outcome State Fault Refusal :=
  match fetch s with
  | none => .next s
  | some (w, s') =>
    match decode w with
    | .ok i => exec i s'
    | .error e => refuseWord e s'

/-- `s` with the instruction word `w` of a table row as the host's very next request, operand words zero (log entry 1). -/
def State.withFetchWord (s : State) (nbits w : Nat) : State := placeRequest s (zeroRequest nbits w)

end Sys2Proof.Machine
end

