-- ==== Sys2Proof/Safety.lean ====
section
/-! DEFINITION. What counts as a safe state of the block, and the vocabulary of the statements: written from the rules'
own closed forms and kept apart from the functions the meanings are made of. -/

namespace Sys2Proof.Safety

open Sys2Proof Sys2Proof.Machine

/-! How an operation answers. -/

/-- `exec i s` is the next state in which the processor is `pr`, the sink has `sink`, the answer is `st` with result `r`,
the operand images are gone, and the parameters and the waiting requests are as before. -/
def Answers (i : Instr) (s : State) (pr : Processor) (sink : List Frame) (st : Status) (r : Result) : Prop :=
  exec i s = .next { s with pr := pr, sink := sink, ops := Operands.idle, response := some ⟨st, r⟩ }

/-- The operation answers and writes no state element (20_memory.md R40). -/
def AnswersPure (i : Instr) (s : State) (st : Status) (r : Result) : Prop := Answers i s s.pr s.sink st r

/-- The operation is refused: no state written, no result (60_exceptions.md R142). -/
def IsRefused (i : Instr) (s : State) : Prop := AnswersPure i s .refused .nothing

/-- The operation ends with error kind `e`, no result and no other effect (60_exceptions.md R150). -/
def Raises (i : Instr) (s : State) (e : ErrorKind) : Prop := AnswersPure i s (.error e) .nothing

/-- The operations of the units CRC, CH, ENV, XENV and DISP (20_memory.md R40), and the two type-byte rows. -/
def pureInstr : Instr → Bool
  | .crc8 | .chPack | .chUnpack | .chP2us | .chUs2p => true
  | .envNew | .envNewRaw | .envAddr | .envLen | .envType | .envData | .envCsum | .envSize | .envBuild => true
  | .xenvNew | .xenvDest | .xenvSrc | .xenvXtype | .xenvData => true
  | .dispGen | .frameAttitude | .frameVariometer => true
  | .fbAdd | .fbGet | .fbResync | .fbFlush => false
  | .prProcess | .prBuild | .prFlush | .prRstat | .prErate => false

/-- The operations of the unit FB. -/
def bufferInstr : Instr → Bool
  | .fbAdd | .fbGet | .fbResync | .fbFlush => true
  | .crc8 | .chPack | .chUnpack | .chP2us | .chUs2p => false
  | .envNew | .envNewRaw | .envAddr | .envLen | .envType | .envData | .envCsum | .envSize | .envBuild => false
  | .xenvNew | .xenvDest | .xenvSrc | .xenvXtype | .xenvData => false
  | .dispGen | .frameAttitude | .frameVariometer => false
  | .prProcess | .prBuild | .prFlush | .prRstat | .prErate => false

/-- Which error kinds the table of 60_exceptions.md R141 lets an operation end with, where no kind has an `extra_check`
body; the type-byte rows decode as DISP_GEN does. -/
def mayRaise : Instr → ErrorKind → Bool
  | .crc8, e => e == .invalidRange
  | .chP2us, e => e == .conversionOutOfRange
  | .chUs2p, e => e == .conversionOutOfRange
  | .envNew, e => e == .corruptedFrame || e == .invalidRange
  | .envAddr, e => e == .unknownAddress
  | .envType, e => e == .unknownFrameType
  | .envBuild, e => e == .invalidLength
  | .xenvNew, e => e == .corruptedFrame || e == .invalidLength || e == .invalidRange
  | .xenvDest, e => e == .unknownAddress
  | .xenvSrc, e => e == .unknownAddress
  | .xenvXtype, e => e == .unknownFrameType
  | .dispGen, e => e == .corruptedFrame || e == .unknownFrameType || e == .invalidLength || e == .invalidRange
  | .frameAttitude, e => e == .unknownFrameType
  | .frameVariometer, e => e == .unknownFrameType
  | .chPack, _ | .chUnpack, _ | .envNewRaw, _ | .envLen, _ | .envData, _ | .envCsum, _ | .envSize, _ => false
  | .xenvData, _ | .fbAdd, _ | .fbGet, _ | .fbResync, _ | .fbFlush, _ => false
  | .prProcess, _ | .prBuild, _ | .prFlush, _ | .prRstat, _ | .prErate, _ => false

/-! The checksum, by the numbers of 40_checksum.md. -/

/-- One iteration of R65 on the number the accumulator holds: the top bit, the doubled value mod 256, the polynomial. -/
def crcIteration (poly acc : Byte) : Byte :=
  if 128 ≤ acc.toNat then BitVec.ofNat 8 (2 * acc.toNat % 256) ^^^ poly else BitVec.ofNat 8 (2 * acc.toNat)

/-- The loop of R65 over a byte sequence, seed 0. -/
def loopCrc (poly : Byte) (bs : List Byte) : Byte :=
  bs.foldl (fun acc b => Nat.repeat (crcIteration poly) 8 (acc ^^^ b)) 0

/-- One data bit of the bit-serial form of R71(a). -/
def serialBit (poly acc : Byte) (d : Bool) : Byte :=
  if (acc.getLsbD 7 ^^ d) then (acc <<< 1) ^^^ poly else acc <<< 1

/-- One data byte of the bit-serial form of R71(a), most significant bit first. -/
def serialByte (poly acc b : Byte) : Byte :=
  [7, 6, 5, 4, 3, 2, 1, 0].foldl (fun a k => serialBit poly a (b.getLsbD k)) acc

/-- The stored last byte of an image of at least 4 bytes is the checksum of `raw[2..len−1)` (40_checksum.md R69). -/
def checksumGood (raw : List Byte) : Prop :=
  raw[raw.length - 1]? = some (loopCrc 0xD5 ((raw.drop 2).take (raw.length - 3)))

/-! The channel bitstream, by the sums of 41_channel_codec.md R75. -/

/-- `B(ch) = Σ (ch[i] mod 2048) · 2^(11i)` (R75). -/
def channelSum (ch : List Int) : Nat :=
  ∑ i ∈ Finset.range 16, (ch.getD i 0 % 2048).toNat * 2 ^ (11 * i)

/-- `Σ pk[k] · 2^(8k)` (R75). -/
def byteSum (pk : List Byte) : Nat :=
  ∑ k ∈ Finset.range 22, (pk.getD k 0).toNat * 2 ^ (8 * k)

/-- `x` is a `w`-bit signed integer (92_eei_decisions.md D4). -/
def isSigned (w : Nat) (x : Int) : Prop := -(2 ^ (w - 1) : Int) ≤ x ∧ x < (2 ^ (w - 1) : Int)

/-- `t` is `n / 78` rounded to the nearest integer, an exact half as `rule` says (41_channel_codec.md R77). -/
def isRounded (rule : TieRule) (n t : Int) : Prop :=
  2 * |n - 78 * t| < 78 ∨
    (2 * |n - 78 * t| = 78 ∧
      match rule with
      | .even => t % 2 = 0
      | .halfUp => if 0 ≤ n then n < 78 * t else 78 * t < n)

/-! The buffer as a function of its queue (10_state.md R24 item 5). -/

/-- The size the queue declares: `Q[1] + 2` when at least 3 bytes are queued and `1 ≤ Q[1] ≤ 64`, else 0. -/
def declaredSize : List Byte → Nat
  | _ :: d :: _ :: _ => if 1 ≤ d.toNat ∧ d.toNat ≤ 64 then d.toNat + 2 else 0
  | _ => 0

/-- The buffer whose hypothesis and availability are those the queue determines. -/
def derivedBuffer (q : List Byte) : FrameBuffer :=
  ⟨q, declaredSize q, decide ((declaredSize q ≠ 0 ∧ declaredSize q ≤ q.length) ∨ 130 ≤ q.length)⟩

/-- Items 1 to 4 of the invariant of 10_state.md R24. -/
def BufferInvariant (fb : FrameBuffer) : Prop :=
  (fb.avail = true ↔ (fb.size ≠ 0 ∧ fb.size ≤ fb.q.length) ∨ 130 ≤ fb.q.length) ∧
  (fb.size = 0 ∨ (3 ≤ fb.size ∧ fb.size ≤ 66)) ∧
  (fb.size ≠ 0 →
    3 ≤ fb.q.length ∧ ∃ d, fb.q[1]? = some d ∧ fb.size = d.toNat + 2 ∧ 1 ≤ d.toNat ∧ d.toNat ≤ 64) ∧
  (fb.size = 0 → 3 ≤ fb.q.length → ∃ d, fb.q[1]? = some d ∧ (d.toNat = 0 ∨ 64 < d.toNat))

/-- A safe state: the buffer's invariant (10_state.md R24), the counters within `CNT_W` bits (R16), the queue within
`Q_CAP` (R12, 00_scope.md R6). -/
def Safe (s : State) : Prop :=
  BufferInvariant s.pr.fb ∧ s.pr.processed ≤ 2 ^ s.params.cntW - 1 ∧ s.pr.errors ≤ 2 ^ s.params.cntW - 1 ∧
    ∀ cap, s.params.qCap = some cap → s.pr.fb.q.length ≤ cap

/-- The first queue position that starts with the marker and has a complete frame of plausible size behind it, as the
rest of the queue from there (43_frame_buffer.md R113(c)). -/
def firstExtractable (marker : Byte) : List Byte → Option (List Byte)
  | [] => none
  | b :: bs =>
    if b = marker ∧ 3 ≤ declaredSize (b :: bs) ∧ declaredSize (b :: bs) ≤ 64 ∧
        declaredSize (b :: bs) ≤ (b :: bs).length then some (b :: bs)
    else firstExtractable marker bs

/-! Streams of complete frames (43_frame_buffer.md R118). -/

/-- A complete frame: 3 to 64 bytes, as many as its length byte says (30_encoding.md R45, R46). -/
def IsFrame (f : List Byte) : Prop :=
  3 ≤ f.length ∧ f.length ≤ 64 ∧ ∃ d, f[1]? = some d ∧ f.length = d.toNat + 2

/-- `FB_GET` whenever `FB.avail`, at most `n` times: the images returned and the buffer left. -/
def extractAll (marker : Byte) : Nat → FrameBuffer → List (List Byte) × FrameBuffer
  | 0, fb => ([], fb)
  | n + 1, fb =>
    if fb.avail then
      ((fb.get marker).1.toList ++ (extractAll marker n (fb.get marker).2).1,
        (extractAll marker n (fb.get marker).2).2)
    else ([], fb)

/-- The schedule of R118: each chunk is added and then `FB_GET` is issued while `FB.avail`; none when a chunk is
refused. -/
def feed (p : Params) : List (List Byte) → FrameBuffer → Option (List (List Byte) × FrameBuffer)
  | [], fb => some ([], fb)
  | c :: cs, fb =>
    match fb.add p c with
    | none => none
    | some fb1 =>
      match feed p cs (extractAll p.marker (fb1.q.length + 1) fb1).2 with
      | none => none
      | some (xs, fb2) => some ((extractAll p.marker (fb1.q.length + 1) fb1).1 ++ xs, fb2)

/-- The host's request for `PR_PROCESS` of a chunk. -/
def processRequest (c : List Byte) : Request := ⟨.cmd8 0x70, { Operands.idle with chunk := c }⟩

end Sys2Proof.Safety
end

