-- ==== Sys2Proof/Certificates/Slice0/Obligations.lean ====
section
/-! DEFINITION. The statements for the provers. -/

open Sys2Proof Sys2Proof.Machine Sys2Proof.Safety

/-! Words, decoding and the step -/

/-- Each word has at most one meaning and each operation exactly one word (30_encoding.md R51 to R53). -/
def Obligations.DecodeAgreesWithEncode : Prop :=
  ∀ (w : Word) (i : Instr), decode w = .ok i ↔ encode i = w

/-- A word decodes exactly when the opcode table assigns it (30_encoding.md R51, R52, R53, R55(e)). -/
def Obligations.DecodeExactlyTheTable : Prop :=
  ∀ w : Word, (∃ i, decode w = .ok i) ↔ w.wellFormed = true

/-- Words of each unit, written bit by bit from 30_encoding.md R51 and R52, decode to their operations. -/
def Obligations.TableWordsDecode : Prop :=
  decode (.cmd8 0b00010000) = .ok .crc8 ∧ decode (.cmd8 0b00100011) = .ok .chUs2p ∧
  decode (.cmd8 0b00111000) = .ok .envBuild ∧ decode (.cmd8 0b01000100) = .ok .xenvData ∧
  decode (.cmd8 0b01010010) = .ok .fbResync ∧ decode (.cmd8 0b01100000) = .ok .dispGen ∧
  decode (.cmd8 0b01110001) = .ok .prBuild ∧ decode (.frameType 0b00011110) = .ok .frameAttitude ∧
  decode (.frameType 0b00000111) = .ok .frameVariometer

/-- A step runs the decoded request: the request leaves the host's list and its operand images stand at the ports
(92_eei_decisions.md D1, 30_encoding.md R51). -/
def Obligations.StepRunsDecodedRequest : Prop :=
  ∀ (s : State) (r : Request) (rest : List Request) (i : Instr),
    s.requests = r :: rest → decode r.word = .ok i →
      step s = exec i { s with requests := rest, ops := r.operands }

/-- A command byte that is not in 30_encoding.md R52 is refused with no state change (R55(e), U1). -/
def Obligations.UnassignedCommandRefused : Prop :=
  ∀ (s : State) (b : Byte) (o : Operands) (rest : List Request),
    s.requests = ⟨.cmd8 b, o⟩ :: rest → (Word.cmd8 b).wellFormed = false →
      step s = .next { s with requests := rest, ops := Operands.idle, response := some ⟨.refused, .nothing⟩ }

/-- With no request the block waits (70_reset_and_hazards.md R167; log entry 1: the model's choice of a step). -/
def Obligations.IdleStepWaits : Prop :=
  ∀ s : State, s.requests = [] → step s = .next s

/-- The block never halts: every step of every state answers a next state (60_exceptions.md R146). -/
def Obligations.EveryStepAnswersNext : Prop :=
  ∀ s : State, ∃ t, step s = .next t

/-! Reset and invariants -/

/-- The reset state, and that it is the state after `PR_FLUSH` followed by `PR_RSTAT` (10_state.md R23). That the answer and
the sink are fields of the state, none and empty at reset, is the model's choice (log entry 5). -/
def Obligations.ResetIsFlushThenResetStatistics : Prop :=
  ∀ p : Params,
    (State.resetWith p).pr = ⟨⟨[], 0, false⟩, 0, 0⟩ ∧ (State.resetWith p).params = p ∧
    (State.resetWith p).response = none ∧ (State.resetWith p).sink = [] ∧
    ∀ s t u : State, exec .prFlush s = .next t → exec .prRstat t = .next u → u.pr = (State.resetWith p).pr

/-- The first operations after reset (70_reset_and_hazards.md R168), for every choice of the parameters: no operation
that finds nothing changes the state, and the stream that starts in mid-frame is held back wherever the queue has room
for its nine bytes.
The spec marks this as its own inference. -/
def Obligations.FirstOperationsAfterReset : Prop :=
  ∀ (p : Params) (o : Operands) (s : State), s = { State.resetWith p with ops := o } →
    AnswersPure .fbGet s .ok .absent ∧ AnswersPure .fbResync s .ok (.found false) ∧
    AnswersPure .fbFlush s .ok .nothing ∧ AnswersPure .prFlush s .ok .nothing ∧
    AnswersPure .prRstat s .ok .nothing ∧ AnswersPure .prErate s .ok (.int 0) ∧
    AnswersPure .prBuild s .ok .absent ∧
    (o.chunk = [] → AnswersPure .prProcess s .ok .nothing ∧ AnswersPure .fbAdd s .ok .nothing) ∧
    (o.chunk = [0x00, 0x00, 0x23, 0xC8, 0x04, 0x07, 0x00, 0x00, 0x23] → (∀ cap, p.qCap = some cap → 9 ≤ cap) →
      Answers .prProcess s ⟨⟨o.chunk, 0, false⟩, 0, 0⟩ [] .ok .nothing)

/-- The invariant between operations (10_state.md R24, all six items): it holds after reset, every operation keeps it,
it makes the hypothesis and the flag functions of the queue, and after a completed `PR_PROCESS` nothing is available.
The spec marks this as its own inference. -/
def Obligations.BufferInvariantBetweenOperations : Prop :=
  (∀ p : Params, BufferInvariant (State.resetWith p).pr.fb) ∧
  (∀ (i : Instr) (s t : State), BufferInvariant s.pr.fb → exec i s = .next t → BufferInvariant t.pr.fb) ∧
  (∀ fb : FrameBuffer, BufferInvariant fb → fb = derivedBuffer fb.q) ∧
  (∀ s t : State, BufferInvariant s.pr.fb → exec .prProcess s = .next t →
    t.response = some ⟨.ok, .nothing⟩ → t.pr.fb.avail = false ∧ t.pr.fb.q.length ≤ 129)

/-- Reset is safe, for every choice of the parameters (10_state.md R23, R24). -/
def Obligations.ResetIsSafe : Prop :=
  ∀ p : Params, Safe (State.resetWith p)

/-- Every step keeps a safe state safe: the buffer's invariant, the counters within `CNT_W` bits, the queue within
`Q_CAP` (10_state.md R24, R16, R12). -/
def Obligations.StepKeepsSafe : Prop :=
  ∀ s t : State, Safe s → step s = .next t → Safe t

/-- No step writes the parameters and the registries (20_memory.md R43, 10_state.md R17, R18). -/
def Obligations.StepKeepsParameters : Prop :=
  ∀ s t : State, step s = .next t → t.params = s.params

/-! Frames over all operations -/

/-- The operations of the units CRC, CH, ENV, XENV and DISP write no state element (20_memory.md R40); the two type-byte
rows likewise (log entry 4: the model's own rows). -/
def Obligations.PureOperationsWriteNoState : Prop :=
  ∀ (i : Instr) (s : State), pureInstr i = true → ∃ st r, AnswersPure i s st r

/-- "Same operands, same result, no state read" (20_memory.md R40): the answer of such an operation depends on the
operand images and the immutable tables alone. The two type-byte rows likewise (log entry 4: the model's own rows). -/
def Obligations.PureOperationsReadNoState : Prop :=
  ∀ (i : Instr) (s s' t t' : State), pureInstr i = true → s.ops = s'.ops → s.params = s'.params →
    exec i s = .next t → exec i s' = .next t' → t.response = t'.response

/-- The operations of the unit FB leave the counters, the sink, the parameters and the waiting requests alone
(43_frame_buffer.md R112 to R115). -/
def Obligations.BufferOperationsFrame : Prop :=
  ∀ (i : Instr) (s t : State), bufferInstr i = true → exec i s = .next t →
    t.pr.processed = s.pr.processed ∧ t.pr.errors = s.pr.errors ∧ t.sink = s.sink ∧
    t.params = s.params ∧ t.requests = s.requests ∧ t.ops = Operands.idle

/-- Frames appear at the sink only inside `PR_PROCESS`, behind those already there (60_exceptions.md R143, R138), and the
counters move only in `PR_PROCESS`, `PR_BUILD` and `PR_RSTAT` (45_processor.md R139, 60_exceptions.md R148). -/
def Obligations.SinkAndCountersMoveOnlyInProcessor : Prop :=
  ∀ (i : Instr) (s t : State), exec i s = .next t →
    (i ≠ .prProcess → t.sink = s.sink) ∧ (∃ fs, t.sink = s.sink ++ fs) ∧
    (i ≠ .prProcess → i ≠ .prBuild → i ≠ .prRstat →
      t.pr.processed = s.pr.processed ∧ t.pr.errors = s.pr.errors)

/-- Which error kind each operation can end with (60_exceptions.md R141), where no registered kind has an `extra_check`
body. R141 has no row for the two type-byte rows: that they end as `DISP_GEN` decodes a type byte is the model's choice
(log entry 4). The spec marks the table as its own inference. -/
def Obligations.ErrorKindsPerOperation : Prop :=
  ∀ (i : Instr) (s t : State) (e : ErrorKind) (r : Result),
    (∀ x ∈ s.params.types, x.2.extraCheck = .ok) → exec i s = .next t →
      t.response = some ⟨.error e, r⟩ → mayRaise i e = true ∧ r = .nothing

/-! Operand ports -/

/-- What the operand ports turn away (92_eei_decisions.md D4, D6, 40_checksum.md R72, 60_exceptions.md R141): a number
wider than its port and a sequence over `DATA_MAX`. The clause on `CH_PACK` is log entry 9, the clause on a kind operand
that is no EXTENDED kind is log entry 10: the model's choices. -/
def Obligations.OperandPortsRefuse : Prop :=
  ∀ s : State,
    ((∃ m, s.params.dataMax = some m ∧ m < s.ops.data.length) ∨ ¬ isSigned s.params.idxW s.ops.start ∨
      ¬ isSigned s.params.idxW s.ops.stop → IsRefused .crc8 s) ∧
    (¬ isSigned s.params.valW s.ops.v → IsRefused .chP2us s) ∧
    (¬ isSigned s.params.valW s.ops.us → IsRefused .chUs2p s) ∧
    (∀ m, s.params.dataMax = some m → m < s.ops.payload.length → IsRefused .envBuild s) ∧
    ((∃ c ∈ s.ops.ch, ¬ isSigned s.params.valW c) → IsRefused .chPack s) ∧
    ((s.ops.kind = .raw ∨ ∃ d, s.ops.kind = .desc d ∧ d.cls = .base) → IsRefused .xenvData s)

/-! Checksum Engine -/

/-- `CRC8` (40_checksum.md R65): the loop's accumulator for a range inside the data, `InvalidRange` otherwise. -/
def Obligations.Crc8Result : Prop :=
  encode .crc8 = .cmd8 0x10 ∧
  ∀ s : State, (∀ m, s.params.dataMax = some m → s.ops.data.length ≤ m) →
    isSigned s.params.idxW s.ops.start → isSigned s.params.idxW s.ops.stop →
      (0 ≤ s.ops.start ∧ s.ops.start < s.ops.stop ∧ s.ops.stop ≤ s.ops.data.length →
        AnswersPure .crc8 s .ok (.byte (loopCrc s.ops.poly
          ((s.ops.data.drop s.ops.start.toNat).take (s.ops.stop - s.ops.start).toNat)))) ∧
      (s.ops.stop ≤ s.ops.start ∨ s.ops.start < 0 ∨ (s.ops.data.length : Int) < s.ops.stop →
        Raises .crc8 s .invalidRange)

/-- The hardware forms of one byte step (40_checksum.md R71): the bit-serial form, the equations for `0xD5` and `0xBA`,
and the table as a XOR of its entries at the powers of two. The spec marks this as its own inference. -/
def Obligations.CrcHardwareForms : Prop :=
  (∀ poly acc b : Byte, serialByte poly acc b = crcStep poly acc b) ∧
  (∀ x c : Byte, crcStep 0xD5 0 x = c →
    c.getLsbD 7 = (x.getLsbD 7 ^^ x.getLsbD 6 ^^ x.getLsbD 5 ^^ x.getLsbD 2 ^^ x.getLsbD 0) ∧
    c.getLsbD 6 = (x.getLsbD 7 ^^ x.getLsbD 4 ^^ x.getLsbD 2 ^^ x.getLsbD 1 ^^ x.getLsbD 0) ∧
    c.getLsbD 5 = (x.getLsbD 7 ^^ x.getLsbD 5 ^^ x.getLsbD 3 ^^ x.getLsbD 2 ^^ x.getLsbD 1) ∧
    c.getLsbD 4 = (x.getLsbD 6 ^^ x.getLsbD 4 ^^ x.getLsbD 2 ^^ x.getLsbD 1 ^^ x.getLsbD 0) ∧
    c.getLsbD 3 = (x.getLsbD 7 ^^ x.getLsbD 6 ^^ x.getLsbD 3 ^^ x.getLsbD 2 ^^ x.getLsbD 1) ∧
    c.getLsbD 2 = (x.getLsbD 7 ^^ x.getLsbD 6 ^^ x.getLsbD 5 ^^ x.getLsbD 2 ^^ x.getLsbD 1 ^^ x.getLsbD 0) ∧
    c.getLsbD 1 = (x.getLsbD 7 ^^ x.getLsbD 4 ^^ x.getLsbD 2 ^^ x.getLsbD 1) ∧
    c.getLsbD 0 = (x.getLsbD 7 ^^ x.getLsbD 6 ^^ x.getLsbD 3 ^^ x.getLsbD 1 ^^ x.getLsbD 0)) ∧
  (∀ x c : Byte, crcStep 0xBA 0 x = c →
    c.getLsbD 7 = (x.getLsbD 7 ^^ x.getLsbD 6 ^^ x.getLsbD 5 ^^ x.getLsbD 4 ^^ x.getLsbD 1 ^^ x.getLsbD 0) ∧
    c.getLsbD 6 = (x.getLsbD 7 ^^ x.getLsbD 3 ^^ x.getLsbD 1) ∧
    c.getLsbD 5 = (x.getLsbD 7 ^^ x.getLsbD 6 ^^ x.getLsbD 2 ^^ x.getLsbD 0) ∧
    c.getLsbD 4 = (x.getLsbD 4 ^^ x.getLsbD 0) ∧
    c.getLsbD 3 = (x.getLsbD 6 ^^ x.getLsbD 5 ^^ x.getLsbD 4 ^^ x.getLsbD 3 ^^ x.getLsbD 1 ^^ x.getLsbD 0) ∧
    c.getLsbD 2 = (x.getLsbD 7 ^^ x.getLsbD 6 ^^ x.getLsbD 3 ^^ x.getLsbD 2 ^^ x.getLsbD 1) ∧
    c.getLsbD 1 = (x.getLsbD 7 ^^ x.getLsbD 6 ^^ x.getLsbD 5 ^^ x.getLsbD 2 ^^ x.getLsbD 1 ^^ x.getLsbD 0) ∧
    c.getLsbD 0 = false) ∧
  (∀ poly x : Byte, crcStep poly 0 x =
    [0, 1, 2, 3, 4, 5, 6, 7].foldl (fun a k => a ^^^ (if x.getLsbD k then crcStep poly 0 (1 <<< k) else 0)) 0) ∧
  [0, 1, 2, 3, 4, 5, 6, 7].map (fun k => crcStep 0xD5 0 (1 <<< k)) = [0xD5, 0x7F, 0xFE, 0x29, 0x52, 0xA4, 0x9D, 0xEF] ∧
  [0, 1, 2, 3, 4, 5, 6, 7].map (fun k => crcStep 0xBA 0 (1 <<< k)) = [0xBA, 0xCE, 0x26, 0x4C, 0x98, 0x8A, 0xAE, 0xE6]

/-- The algebraic laws of the checksum (40_checksum.md R68): linearity, zeros, residue, and for an odd polynomial that the
byte step is a bijection and a single changed byte changes the checksum, which fails for `0xBA`.
The spec marks this as its own inference. -/
def Obligations.CrcAlgebraicLaws : Prop :=
  (∀ (poly : Byte) (x y : List Byte), x.length = y.length → 1 ≤ x.length →
    crcFold poly (List.zipWith (· ^^^ ·) x y) = crcFold poly x ^^^ crcFold poly y) ∧
  (∀ (poly : Byte) (n : Nat) (x : List Byte),
    crcFold poly (List.replicate n 0) = 0 ∧ crcFold poly (List.replicate n 0 ++ x) = crcFold poly x) ∧
  (∀ (poly : Byte) (x : List Byte), crcFold poly (x ++ [crcFold poly x]) = 0) ∧
  (∀ (poly b : Byte), poly.getLsbD 0 = true → Function.Bijective (fun a => crcStep poly a b)) ∧
  (∀ (poly : Byte) (x : List Byte) (i : Nat) (a b : Byte), poly.getLsbD 0 = true →
    x[i]? = some a → b ≠ a → crcFold poly (x.set i b) ≠ crcFold poly x) ∧
  crcFold 0xBA [0x00] = crcFold 0xBA [0xDD]

/-! Channel Codec -/

/-- `CH_PACK` (41_channel_codec.md R73, R75): sixteen values at the port give the 22 bytes of the bitstream; any other
count is refused (60_exceptions.md R141, R142, 93_implementation_defined.md U9). -/
def Obligations.ChPackResult : Prop :=
  ∀ s : State,
    (s.ops.ch.length = 16 → (∀ c ∈ s.ops.ch, isSigned s.params.valW c) →
      ∃ pk, AnswersPure .chPack s .ok (.bytes pk) ∧ pk.length = 22 ∧
        ∀ k < 22, pk[k]? = some (BitVec.ofNat 8 (channelSum s.ops.ch >>> (8 * k)))) ∧
    (s.ops.ch.length ≠ 16 → IsRefused .chPack s)

/-- `CH_UNPACK` (41_channel_codec.md R74, R75): 22 bytes give sixteen values 0..2047, field by field; any other length
is refused. -/
def Obligations.ChUnpackResult : Prop :=
  ∀ s : State,
    (s.ops.pk.length = 22 →
      ∃ ch : List Int, AnswersPure .chUnpack s .ok (.ints ch) ∧ ch.length = 16 ∧
        ∀ i < 16, ch[i]? = some (((byteSum s.ops.pk >>> (11 * i)) % 2048 : Nat) : Int)) ∧
    (s.ops.pk.length ≠ 22 → IsRefused .chUnpack s)

/-- Packing and unpacking (41_channel_codec.md R75): the closed forms, and that each undoes the other.
The spec marks this as its own inference. -/
def Obligations.PackUnpackInverse : Prop :=
  (∀ ch : List Int, ch.length = 16 →
    (chPack ch).length = 22 ∧
    (∀ k < 22, ((chPack ch).getD k 0).toNat = (channelSum ch >>> (8 * k)) % 256) ∧
    chUnpack (chPack ch) = ch.map (· % 2048) ∧
    ((∀ c ∈ ch, 0 ≤ c ∧ c ≤ 2047) → chUnpack (chPack ch) = ch)) ∧
  (∀ pk : List Byte, pk.length = 22 →
    (chUnpack pk).length = 16 ∧
    (∀ i < 16, (chUnpack pk)[i]? = some (((byteSum pk >>> (11 * i)) % 2048 : Nat) : Int)) ∧
    (∀ c ∈ chUnpack pk, 0 ≤ c ∧ c ≤ 2047) ∧
    chPack (chUnpack pk) = pk)

/-- `CH_P2US` (41_channel_codec.md R76): 1500 at the failsafe, `ConversionOutOfRange` outside 0..1984, else the nearest
integer to `(78v + 110084)/125`. -/
def Obligations.ProtocolToMicroseconds : Prop :=
  encode .chP2us = .cmd8 0x22 ∧
  ∀ s : State, isSigned s.params.valW s.ops.v →
    (s.ops.v = 992 → AnswersPure .chP2us s .ok (.int 1500)) ∧
    (s.ops.v < 0 ∨ 1984 < s.ops.v → Raises .chP2us s .conversionOutOfRange) ∧
    (0 ≤ s.ops.v → s.ops.v ≤ 1984 → ∃ us : Int, AnswersPure .chP2us s .ok (.int us) ∧
      2 * |125 * us - (78 * s.ops.v + 110084)| < 125 ∧ us = (78 * s.ops.v + 110146) / 125 ∧ 881 ≤ us ∧ us ≤ 2119)

/-- `CH_US2P` (41_channel_codec.md R77): 992 at the failsafe, else `(125·us − 110084)/78` rounded to nearest by
`TIE_RULE`, `ConversionOutOfRange` when that is outside 0..1984; with ties to even exactly 881..2119 is accepted. -/
def Obligations.MicrosecondsToProtocol : Prop :=
  encode .chUs2p = .cmd8 0x23 ∧
  ∀ s : State, isSigned s.params.valW s.ops.us →
    (s.ops.us = 1500 → AnswersPure .chUs2p s .ok (.int 992)) ∧
    (s.ops.us ≠ 1500 → ∃ v, isRounded s.params.tieRule (125 * s.ops.us - 110084) v ∧
      (0 ≤ v ∧ v ≤ 1984 → AnswersPure .chUs2p s .ok (.int v)) ∧
      (v < 0 ∨ 1984 < v → Raises .chUs2p s .conversionOutOfRange)) ∧
    (s.params.tieRule = .even → s.ops.us < 881 ∨ 2119 < s.ops.us → Raises .chUs2p s .conversionOutOfRange) ∧
    (s.params.tieRule = .even → 881 ≤ s.ops.us → s.ops.us ≤ 2119 → ∃ v, AnswersPure .chUs2p s .ok (.int v))

/-- The two conversions are inverse up to one unit, and exactly at the failsafe (41_channel_codec.md R80), with ties to
even. The spec marks this as its own inference. -/
def Obligations.ConversionRoundTrips : Prop :=
  p2us 992 = .ok 1500 ∧ us2p .even 1500 = .ok 992 ∧ p2us 0 = .ok 881 ∧ us2p .even 881 = .ok 1 ∧
  (∀ v : Int, 0 ≤ v → v ≤ 1984 → ∃ us w, p2us v = .ok us ∧ us2p .even us = .ok w ∧ |w - v| ≤ 1) ∧
  (∀ us : Int, 881 ≤ us → us ≤ 2119 → ∃ v, us2p .even us = .ok v ∧ p2us v = .ok us)

/-- Where the reverse conversion ties (41_channel_codec.md R79): at `us ≡ 13 (mod 78)`, with the results of ties to even;
the two tie rules agree everywhere else, and half-up turns the last tie point into an error.
The spec marks this as its own inference. -/
def Obligations.ReverseConversionTies : Prop :=
  (∀ us : Int, 2 * ((125 * us - 110084) % 78) = 78 ↔ us % 78 = 13) ∧
  (∀ us : Int, us % 78 ≠ 13 → us2p .even us = us2p .halfUp us) ∧
  [949, 1027, 1105, 1183, 1261, 1339, 1417, 1495, 1573, 1651, 1729, 1807, 1885, 1963, 2041, 2119].map (us2p .even) =
    ([110, 234, 360, 484, 610, 734, 860, 984, 1110, 1234, 1360, 1484, 1610, 1734, 1860, 1984] : List Int).map Except.ok ∧
  us2p .halfUp 2119 = .error .conversionOutOfRange

/-! Frame Envelope and Extended Envelope -/

/-- `ENV_NEW` and `ENV_NEW_RAW` (42_envelope.md R86, R87): `InvalidRange` on 3 bytes or fewer, then the checksum decides,
and nothing else is checked; the raw form is accepted whatever the content. -/
def Obligations.EnvelopeConstruction : Prop :=
  encode .envNew = .cmd8 0x30 ∧ encode .envNewRaw = .cmd8 0x31 ∧
  ∀ s : State, s.ops.raw.length ≤ 64 →
    AnswersPure .envNewRaw s .ok .nothing ∧
    (s.ops.raw.length ≤ 3 → Raises .envNew s .invalidRange) ∧
    (4 ≤ s.ops.raw.length → checksumGood s.ops.raw → AnswersPure .envNew s .ok .nothing) ∧
    (4 ≤ s.ops.raw.length → ¬ checksumGood s.ops.raw → Raises .envNew s .corruptedFrame)

/-- The accessors of the base envelope (42_envelope.md R88 to R92). -/
def Obligations.BaseAccessors : Prop :=
  encode .envAddr = .cmd8 0x32 ∧ encode .envLen = .cmd8 0x33 ∧ encode .envType = .cmd8 0x34 ∧
  encode .envData = .cmd8 0x35 ∧ encode .envCsum = .cmd8 0x36 ∧
  ∀ s : State, s.ops.raw.length ≤ 64 →
    (s.ops.raw.length < 1 → IsRefused .envAddr s ∧ IsRefused .envCsum s) ∧
    (s.ops.raw.length < 2 → IsRefused .envLen s ∧ IsRefused .envData s) ∧
    (s.ops.raw.length < 3 → IsRefused .envType s) ∧
    (∀ a, s.ops.raw[0]? = some a →
      (a ∈ s.params.addresses → AnswersPure .envAddr s .ok (.byte a)) ∧
      (a ∉ s.params.addresses → Raises .envAddr s .unknownAddress)) ∧
    (∀ l, s.ops.raw[1]? = some l → AnswersPure .envLen s .ok (.byte l) ∧
      AnswersPure .envData s .ok (.bytes (s.ops.raw.drop 2))) ∧
    (∀ t, s.ops.raw[2]? = some t →
      (∀ d, lookupType s.params t = some d → AnswersPure .envType s .ok (.typed t d)) ∧
      (lookupType s.params t = none → Raises .envType s .unknownFrameType)) ∧
    (∀ c, s.ops.raw.getLast? = some c → AnswersPure .envCsum s .ok (.byte c))

/-- `ENV_SIZE` (42_envelope.md R93): the kind's fixed size where it has one, else the length of the image. -/
def Obligations.FrameSizeOfKind : Prop :=
  encode .envSize = .cmd8 0x37 ∧
  ∀ s : State, s.ops.raw.length ≤ 64 →
    (s.ops.kind = .raw → AnswersPure .envSize s .ok (.int s.ops.raw.length)) ∧
    (∀ d, s.ops.kind = .desc d →
      (d.fixedSize = none → AnswersPure .envSize s .ok (.int s.ops.raw.length)) ∧
      (∀ n, d.fixedSize = some n → AnswersPure .envSize s .ok (.int n)))

/-- `XENV_NEW` (42_envelope.md R94): the base construction first, then the minimum of 6 bytes.
The spec marks this as its own inference. -/
def Obligations.ExtendedConstruction : Prop :=
  encode .xenvNew = .cmd8 0x40 ∧
  ∀ s : State, s.ops.raw.length ≤ 64 →
    (s.ops.raw.length ≤ 3 → Raises .xenvNew s .invalidRange) ∧
    (4 ≤ s.ops.raw.length → ¬ checksumGood s.ops.raw → Raises .xenvNew s .corruptedFrame) ∧
    (4 ≤ s.ops.raw.length → checksumGood s.ops.raw → s.ops.raw.length < 6 → Raises .xenvNew s .invalidLength) ∧
    (6 ≤ s.ops.raw.length → checksumGood s.ops.raw → AnswersPure .xenvNew s .ok .nothing)

/-- The lookups of the extended envelope (42_envelope.md R95 to R97). The spec marks this as its own inference. -/
def Obligations.ExtendedAccessors : Prop :=
  encode .xenvDest = .cmd8 0x41 ∧ encode .xenvSrc = .cmd8 0x42 ∧ encode .xenvXtype = .cmd8 0x43 ∧
  ∀ s : State, s.ops.raw.length ≤ 64 →
    (s.ops.raw.length < 4 → IsRefused .xenvDest s) ∧
    (s.ops.raw.length < 5 → IsRefused .xenvSrc s) ∧
    (s.ops.raw.length < 6 → IsRefused .xenvXtype s) ∧
    (∀ a, s.ops.raw[3]? = some a →
      (a ∈ s.params.addresses → AnswersPure .xenvDest s .ok (.byte a)) ∧
      (a ∉ s.params.addresses → Raises .xenvDest s .unknownAddress)) ∧
    (∀ a, s.ops.raw[4]? = some a →
      (a ∈ s.params.addresses → AnswersPure .xenvSrc s .ok (.byte a)) ∧
      (a ∉ s.params.addresses → Raises .xenvSrc s .unknownAddress)) ∧
    (∀ x, s.ops.raw[5]? = some x →
      (x ∈ s.params.xtypes → AnswersPure .xenvXtype s .ok (.byte x)) ∧
      (x ∉ s.params.xtypes → Raises .xenvXtype s .unknownFrameType))

/-- `XENV_DATA` (42_envelope.md R98): the slice from the kind's offset, 6 or 5, to the end of the image. -/
def Obligations.ExtendedPayload : Prop :=
  encode .xenvData = .cmd8 0x44 ∧
  ∀ (s : State) (d : KindDesc), s.ops.raw.length ≤ 64 → s.ops.kind = .desc d →
    (d.cls = .extended .six →
      (6 ≤ s.ops.raw.length → AnswersPure .xenvData s .ok (.bytes (s.ops.raw.drop 6))) ∧
      (s.ops.raw.length < 6 → IsRefused .xenvData s)) ∧
    (d.cls = .extended .five →
      (5 ≤ s.ops.raw.length → AnswersPure .xenvData s .ok (.bytes (s.ops.raw.drop 5))) ∧
      (s.ops.raw.length < 5 → IsRefused .xenvData s))

/-- Every operation on an image refuses more than 64 bytes (42_envelope.md, port precondition; D6, U8). For `ENV_SIZE` and
for the accessors, where the cells of 60_exceptions.md R141 do not name this refusal, it is the model's choice (log entry
15, DEDUCED). -/
def Obligations.LongImagesRefused : Prop :=
  ∀ s : State, 64 < s.ops.raw.length →
    ∀ i ∈ ([.envNew, .envNewRaw, .envAddr, .envLen, .envType, .envData, .envCsum, .envSize, .xenvNew, .xenvDest,
      .xenvSrc, .xenvXtype, .xenvData, .dispGen] : List Instr), IsRefused i s

/-- `ENV_BUILD` (42_envelope.md R99): the outbound layout, `InvalidLength` over 64 bytes in all. -/
def Obligations.OutboundLayout : Prop :=
  encode .envBuild = .cmd8 0x38 ∧
  ∀ s : State, (∀ m, s.params.dataMax = some m → s.ops.payload.length ≤ m) →
    (s.ops.payload.length ≤ 60 → AnswersPure .envBuild s .ok (.bytes
      ([s.ops.addr, BitVec.ofNat 8 (s.ops.payload.length + 2), s.ops.type] ++ s.ops.payload ++
        [loopCrc 0xD5 (s.ops.type :: s.ops.payload)]))) ∧
    (60 < s.ops.payload.length → Raises .envBuild s .invalidLength)

/-- The envelope invariant (42_envelope.md R100, R101): what `ENV_BUILD` emits has a truthful length byte, constructs,
comes back from an empty buffer whole and holds its payload; what the buffer extracts has a truthful length byte; and a
valid image with one byte changed at offset 2 or later does not construct, while one with byte 0 changed does.
The spec marks this as its own inference. -/
def Obligations.BuiltFramesAreValid : Prop :=
  (∀ (addr type : Byte) (payload : List Byte), payload.length ≤ 60 →
    ∃ raw, envBuild addr type payload = .ok raw ∧ IsFrame raw ∧ envNew raw = .ok () ∧
      payloadField raw = payload ∧
      ∀ (p : Params) (fb : FrameBuffer), FrameBuffer.empty.add p raw = some fb →
        fb.get p.marker = (some raw, FrameBuffer.empty)) ∧
  (∀ (m : Byte) (fb : FrameBuffer) (raw : List Byte), BufferInvariant fb → (fb.get m).1 = some raw → IsFrame raw) ∧
  (∀ (raw : List Byte) (i : Nat) (a b : Byte), envNew raw = .ok () → raw[i]? = some a → b ≠ a →
    (2 ≤ i → envNew (raw.set i b) = .error .corruptedFrame) ∧ (i = 0 → envNew (raw.set i b) = .ok ()))

/-! Frame Buffer -/

/-- `FB_ADD` (43_frame_buffer.md R112): an empty chunk is a no-op, otherwise the chunk joins the tail and the buffer is
derived once; a cached hypothesis is kept; over `Q_CAP` the operation is refused. -/
def Obligations.AddAppendsThenDerives : Prop :=
  encode .fbAdd = .cmd8 0x50 ∧
  ∀ s : State,
    (s.ops.chunk = [] → AnswersPure .fbAdd s .ok .nothing) ∧
    (s.ops.chunk ≠ [] → (∀ cap, s.params.qCap = some cap → s.pr.fb.q.length + s.ops.chunk.length ≤ cap) →
      ∃ fb, Answers .fbAdd s { s.pr with fb := fb } s.sink .ok .nothing ∧ fb.q = s.pr.fb.q ++ s.ops.chunk ∧
        (s.pr.fb.size ≠ 0 → fb.size = s.pr.fb.size) ∧
        (s.pr.fb.size = 0 → fb.size = declaredSize fb.q) ∧
        (fb.avail = true ↔ (fb.size ≠ 0 ∧ fb.size ≤ fb.q.length) ∨ 130 ≤ fb.q.length)) ∧
    (s.ops.chunk ≠ [] → (∃ cap, s.params.qCap = some cap ∧ cap < s.pr.fb.q.length + s.ops.chunk.length) →
      IsRefused .fbAdd s)

/-- `FB_RESYNC` (43_frame_buffer.md R114): the head is dropped without being inspected; the buffer stands at the first
marker behind it, derived from the queue alone, or is flushed when there is none. -/
def Obligations.ResyncStopsAtFirstMarkerBehindHead : Prop :=
  encode .fbResync = .cmd8 0x52 ∧
  ∀ s : State,
    (s.params.marker ∉ s.pr.fb.q.tail →
      Answers .fbResync s { s.pr with fb := ⟨[], 0, false⟩ } s.sink .ok (.found false)) ∧
    (∀ pre post, s.pr.fb.q.tail = pre ++ s.params.marker :: post → s.params.marker ∉ pre →
      Answers .fbResync s { s.pr with fb := derivedBuffer (s.params.marker :: post) } s.sink .ok (.found true))

/-- `FB_GET` when the hypothesis is a plausible size and met (43_frame_buffer.md R113): exactly `FB.S` bytes leave from
the head and the remainder is derived. -/
def Obligations.GetPopsTheHypothesis : Prop :=
  ∀ s : State, 1 ≤ s.pr.fb.size → s.pr.fb.size ≤ 64 → s.pr.fb.size ≤ s.pr.fb.q.length →
    Answers .fbGet s { s.pr with fb := derivedBuffer (s.pr.fb.q.drop s.pr.fb.size) } s.sink .ok
      (.bytes (s.pr.fb.q.take s.pr.fb.size))

/-- `FB_GET` obeys the recursion of 43_frame_buffer.md R113, with no bound on the retries, and always answers. -/
def Obligations.GetRetriesAfterResync : Prop :=
  encode .fbGet = .cmd8 0x51 ∧
  (∀ s : State, Answers .fbGet s { s.pr with fb := (s.pr.fb.get s.params.marker).2 } s.sink .ok
    (match (s.pr.fb.get s.params.marker).1 with
      | some raw => .bytes raw
      | none => .absent)) ∧
  (∀ (m : Byte) (fb : FrameBuffer), fb.size = 0 ∨ 64 < fb.size ∨ fb.q.length < fb.size →
    ((fb.resync m).1 = true → fb.get m = (fb.resync m).2.get m) ∧
    ((fb.resync m).1 = false → fb.get m = (none, ⟨[], 0, false⟩))) ∧
  (∀ (m : Byte) (fb : FrameBuffer), fb.size ≠ 0 → fb.size ≤ 64 → fb.size ≤ fb.q.length →
    fb.get m = (some (fb.q.take fb.size), derivedBuffer (fb.q.drop fb.size)))

/-- On the retry path `FB_GET` skips to the first later queue position that holds the marker and has a complete frame of
plausible size behind it; with no such position the buffer ends empty (43_frame_buffer.md R113(c)). -/
def Obligations.GetSkipsToExtractableMarker : Prop :=
  ∀ (m : Byte) (fb : FrameBuffer), fb.size = 0 ∨ 64 < fb.size ∨ fb.q.length < fb.size →
    (firstExtractable m fb.q.tail = none → fb.get m = (none, ⟨[], 0, false⟩)) ∧
    (∀ q, firstExtractable m fb.q.tail = some q →
      fb.get m = (some (q.take (declaredSize q)), derivedBuffer (q.drop (declaredSize q))))

/-- `FB_FLUSH` and `PR_FLUSH` (43_frame_buffer.md R115, 45_processor.md R133): the buffer is cleared unconditionally,
the counters and everything else stay, and a second flush changes nothing. -/
def Obligations.FlushClearsTheBufferOnly : Prop :=
  encode .fbFlush = .cmd8 0x53 ∧ encode .prFlush = .cmd8 0x72 ∧
  ∀ s : State,
    Answers .fbFlush s { s.pr with fb := ⟨[], 0, false⟩ } s.sink .ok .nothing ∧
    Answers .prFlush s { s.pr with fb := ⟨[], 0, false⟩ } s.sink .ok .nothing ∧
    ∀ t u : State, (exec .fbFlush s = .next t → exec .fbFlush t = .next u → u = t) ∧
      (exec .prFlush s = .next t → exec .prFlush t = .next u → u = t)

/-- The transitions between EMPTY, ACCUMULATING and FRAME_READY (43_frame_buffer.md R116).
The spec marks this as its own inference. -/
def Obligations.BufferStateTransitions : Prop :=
  ∀ (p : Params) (fb : FrameBuffer), BufferInvariant fb →
    fb.add p [] = some fb ∧
    (∀ chunk fb', chunk ≠ [] → fb.add p chunk = some fb' →
      fb'.bufferState ≠ .empty ∧ (fb.bufferState = .frameReady → fb'.bufferState = .frameReady)) ∧
    (fb.bufferState = .frameReady → 3 ≤ fb.size → fb.size ≤ 64 → (fb.get p.marker).1.isSome = true) ∧
    ((fb.get p.marker).1 = none → (fb.get p.marker).2.bufferState = .empty) ∧
    ((fb.resync p.marker).1 = false → (fb.resync p.marker).2.bufferState = .empty) ∧
    ((fb.resync p.marker).1 = true → (fb.resync p.marker).2.bufferState ≠ .empty ∧
      (fb.resync p.marker).2.q.head? = some p.marker) ∧
    fb.flush.bufferState = .empty

/-- Bytes are consumed strictly in arrival order (43_frame_buffer.md R117): what an operation leaves queued is the end of
what was queued and appended, what `FB_GET` returns is the run of bytes just before it, and what `PR_PROCESS` delivers
are runs of the bytes that left, in order. That a refused `PR_PROCESS` has delivered nothing is the model's choice where a
counter refuses (log entry 8). -/
def Obligations.BytesLeaveInArrivalOrder : Prop :=
  (∀ s t : State, exec .fbAdd s = .next t →
    t.pr.fb.q = s.pr.fb.q ++ s.ops.chunk ∨ (t.pr = s.pr ∧ t.response = some ⟨.refused, .nothing⟩)) ∧
  (∀ s t : State, exec .fbGet s = .next t →
    (∃ lost raw, t.response = some ⟨.ok, .bytes raw⟩ ∧ s.pr.fb.q = lost ++ raw ++ t.pr.fb.q) ∨
    (t.response = some ⟨.ok, .absent⟩ ∧ t.pr.fb.q = [])) ∧
  (∀ s t : State, exec .fbResync s = .next t → ∃ lost, s.pr.fb.q = lost ++ t.pr.fb.q) ∧
  (∀ s t : State, exec .prBuild s = .next t → ∃ lost, s.pr.fb.q = lost ++ t.pr.fb.q) ∧
  (∀ s t : State, exec .prProcess s = .next t →
    (∃ gone fs, s.pr.fb.q ++ s.ops.chunk = gone ++ t.pr.fb.q ∧ t.sink = s.sink ++ fs ∧
      ((fs.map Frame.raw).flatten).Sublist gone) ∨
    (t.pr = s.pr ∧ t.sink = s.sink ∧ t.response = some ⟨.refused, .nothing⟩))

/-- Chunking independence (43_frame_buffer.md R118): a concatenation of complete frames, fed to a buffer in reset state
in any chunks with `FB_GET` issued whenever `FB.avail`, gives back exactly those frames and an empty buffer.
The spec marks this as its own inference. -/
def Obligations.ChunkingIndependence : Prop :=
  ∀ (p : Params) (frames chunks : List (List Byte)),
    (∀ cap, p.qCap = some cap → chunks.flatten.length ≤ cap) → (∀ f ∈ frames, IsFrame f) →
    chunks.flatten = frames.flatten →
      feed p chunks FrameBuffer.empty = some (frames, FrameBuffer.empty)

/-! Frame Dispatcher -/

/-- The decision table of `DISP_GEN` (44_dispatcher.md R129), row by row. The spec marks this as its own inference. -/
def Obligations.DispatchDecisionTable : Prop :=
  ∀ s : State, s.ops.raw.length ≤ 64 →
    (s.ops.raw.length < 3 → Raises .dispGen s .invalidLength) ∧
    ∀ t, s.ops.raw[2]? = some t →
      (lookupType s.params t = none → s.params.unknownType = .error → Raises .dispGen s .unknownFrameType) ∧
      (lookupType s.params t = none → s.params.unknownType = .rawFallback →
        AnswersPure .dispGen s .ok (.frame ⟨.raw, s.ops.raw⟩)) ∧
      ∀ k, lookupType s.params t = some k →
        (k.handled = false → AnswersPure .dispGen s .ok (.frame ⟨.raw, s.ops.raw⟩)) ∧
        (k.handled = true → s.ops.raw.length = 3 → Raises .dispGen s .invalidRange) ∧
        (k.handled = true → 4 ≤ s.ops.raw.length → ¬ checksumGood s.ops.raw →
          Raises .dispGen s .corruptedFrame) ∧
        (k.handled = true → 4 ≤ s.ops.raw.length → checksumGood s.ops.raw →
          ((∃ o, k.cls = .extended o) → s.ops.raw.length < 6 → Raises .dispGen s .invalidLength) ∧
          (k.cls = .base ∨ 6 ≤ s.ops.raw.length →
            (∀ n, k.checkMinLen = true → k.fixedSize = some n → s.ops.raw.length < n →
              Raises .dispGen s .invalidLength) ∧
            (k.checkMinLen = false ∨ (∃ n, k.fixedSize = some n ∧ n ≤ s.ops.raw.length) →
              (∀ e, runExtraCheck k.extraCheck s.ops.raw = some e → Raises .dispGen s e) ∧
              (runExtraCheck k.extraCheck s.ops.raw = none →
                AnswersPure .dispGen s .ok (.frame ⟨.named k.name, s.ops.raw⟩)))))

/-- The two attested type bytes decoded as the dispatcher decodes them (30_encoding.md R53, 44_dispatcher.md R125;
the rows are operations of the MODEL, log entry 4). With `REG_EX` they give the kinds of size 10 with the telemetry flag
and of size 7. -/
def Obligations.AttestedTypeBytes : Prop :=
  ∀ (s : State) (i : Instr) (t : Byte), (i = .frameAttitude ∧ t = 0x1E) ∨ (i = .frameVariometer ∧ t = 0x07) →
    (∀ k, lookupType s.params t = some k → k.handled = true → AnswersPure i s .ok (.kind (some k))) ∧
    (∀ k, lookupType s.params t = some k → k.handled = false → AnswersPure i s .ok (.kind none)) ∧
    (lookupType s.params t = none → s.params.unknownType = .error → Raises i s .unknownFrameType) ∧
    (lookupType s.params t = none → s.params.unknownType = .rawFallback → AnswersPure i s .ok (.kind none)) ∧
    (s.params.types = Config.regEx →
      ∃ k, AnswersPure i s .ok (.kind (some k)) ∧
        (i = .frameAttitude → k.name = .attitude ∧ k.fixedSize = some 10 ∧ k.telemetry = some true) ∧
        (i = .frameVariometer → k.name = .variometer ∧ k.fixedSize = some 7))

/-- The source's two example frames with `REG_EX` (44_dispatcher.md R128): an attitude frame of size 10 with the
telemetry flag, and a size-7 variometer frame of 6 bytes. -/
def Obligations.SourceExampleFrames : Prop :=
  ∀ p : Params, p.types = Config.regEx → ∀ x y : List Byte,
    x = [0xC8, 0x08, 0x1E, 0x00, 0x22, 0xFF, 0xA9, 0x3C, 0x10, 0xC4] → y = [0xC8, 0x04, 0x07, 0x00, 0x00, 0x23] →
      dispGen p x = .ok ⟨.named .attitude, x⟩ ∧ Frame.frameSize p ⟨.named .attitude, x⟩ = 10 ∧
      Frame.telemetry p ⟨.named .attitude, x⟩ = true ∧
      dispGen p y = .ok ⟨.named .variometer, y⟩ ∧ Frame.frameSize p ⟨.named .variometer, y⟩ = 7

/-! Frame Processor -/

/-- `PR_BUILD` (45_processor.md R132) where nothing is extracted, where the dispatcher succeeds, and where its failure is
swallowed; and that a counter at its maximum refuses the whole operation (R132(f)). -/
def Obligations.BuildOutcomes : Prop :=
  encode .prBuild = .cmd8 0x71 ∧
  ∀ (s : State) (fb : FrameBuffer),
    (s.pr.fb.get s.params.marker = (none, fb) → Answers .prBuild s { s.pr with fb := fb } s.sink .ok .absent) ∧
    ∀ raw, s.pr.fb.get s.params.marker = (some raw, fb) →
      (∀ f, dispGen s.params raw = .ok f → s.pr.processed < 2 ^ s.params.cntW - 1 →
        Answers .prBuild s ⟨fb, s.pr.processed + 1, s.pr.errors⟩ s.sink .ok (.frame f)) ∧
      (∀ f, dispGen s.params raw = .ok f → 2 ^ s.params.cntW - 1 ≤ s.pr.processed → IsRefused .prBuild s) ∧
      (∀ e, dispGen s.params raw = .error e → (e = .invalidRange ∨ e = .conversionOutOfRange) →
        Answers .prBuild s { s.pr with fb := fb } s.sink .ok .absent)

/-- The recovery sequence (60_exceptions.md R145): for an error of code 1 to 4 inside `PR_BUILD` the image is gone,
`PR.errors` counts one, what is queued behind the image resynchronizes, and the result is none; at the counter's maximum
the operation is refused. -/
def Obligations.RecoverySequence : Prop :=
  ∀ (s : State) (raw : List Byte) (fb : FrameBuffer) (e : ErrorKind),
    s.pr.fb.get s.params.marker = (some raw, fb) → dispGen s.params raw = .error e →
      (1 : Nat) ≤ (Status.error e).code.toNat → (Status.error e).code.toNat ≤ 4 →
        (s.pr.errors < 2 ^ s.params.cntW - 1 →
          Answers .prBuild s ⟨(fb.resync s.params.marker).2, s.pr.processed, s.pr.errors + 1⟩ s.sink .ok .absent) ∧
        (2 ^ s.params.cntW - 1 ≤ s.pr.errors → IsRefused .prBuild s)

/-- `PR_PROCESS` (45_processor.md R131): the chunk is added, then the loop runs while `FB.avail`, delivering each frame;
on completion nothing is available; it is refused whole when `FB_ADD` refuses. That it is refused and undone whole when a
counter refuses is the model's choice (log entry 8, DEDUCED). -/
def Obligations.ProcessDrainsWhileAvailable : Prop :=
  encode .prProcess = .cmd8 0x70 ∧
  (∀ s : State,
    (s.pr.fb.add s.params s.ops.chunk = none → IsRefused .prProcess s) ∧
    ∀ fb, s.pr.fb.add s.params s.ops.chunk = some fb →
      (Processor.drain s.params { s.pr with fb := fb } = none → IsRefused .prProcess s) ∧
      (∀ fs pr, Processor.drain s.params { s.pr with fb := fb } = some (fs, pr) →
        Answers .prProcess s pr (s.sink ++ fs) .ok .nothing ∧ pr.fb.avail = false)) ∧
  (∀ (p : Params) (pr : Processor), pr.fb.avail = false → pr.drain p = some ([], pr)) ∧
  (∀ (p : Params) (pr : Processor), pr.fb.avail = true → pr.build p = none → pr.drain p = none) ∧
  (∀ (p : Params) (pr pr' : Processor) (f : Option Frame), pr.fb.avail = true → pr.build p = some (f, pr') →
    pr.drain p = (pr'.drain p).map (fun x => (f.toList ++ x.1, x.2)))

/-- `PR_PROCESS` completes whenever the queue has room and the counters cannot reach their maximum on the queued bytes
(45_processor.md R131, R132(f), R136). The spec marks this as its own inference. -/
def Obligations.ProcessCompletes : Prop :=
  ∀ s : State, (∀ cap, s.params.qCap = some cap → s.pr.fb.q.length + s.ops.chunk.length ≤ cap) →
    s.pr.processed + s.pr.fb.q.length + s.ops.chunk.length ≤ 2 ^ s.params.cntW - 1 →
    s.pr.errors + s.pr.fb.q.length + s.ops.chunk.length ≤ 2 ^ s.params.cntW - 1 →
      ∃ pr fs, Answers .prProcess s pr (s.sink ++ fs) .ok .nothing ∧ pr.fb.avail = false

/-- The drain loop ends (45_processor.md R136): an available buffer holds at least 3 bytes, each round removes at least
one, so `|FB.Q|` rounds are enough. The spec marks this as its own inference. -/
def Obligations.DrainTerminates : Prop :=
  ∀ (p : Params) (pr : Processor), BufferInvariant pr.fb →
    (pr.fb.avail = true → 3 ≤ pr.fb.q.length) ∧
    (∀ f pr', pr.fb.avail = true → pr.build p = some (f, pr') → pr'.fb.q.length < pr.fb.q.length) ∧
    (∀ n, pr.fb.q.length ≤ n → Processor.drainWithin p n pr = pr.drain p)

/-- What `PR_PROCESS` counts and delivers (45_processor.md R139, R138): `PR.processed` grows by the number of frames
delivered, each of which is what the dispatcher makes of its bytes, and `PR.errors` does not fall.
The spec marks this as its own inference. -/
def Obligations.DeliveriesAreCounted : Prop :=
  ∀ s t : State, exec .prProcess s = .next t → t.response = some ⟨.ok, .nothing⟩ →
    ∃ fs, t.sink = s.sink ++ fs ∧ t.pr.processed = s.pr.processed + fs.length ∧ s.pr.errors ≤ t.pr.errors ∧
      ∀ f ∈ fs, dispGen s.params f.raw = .ok f

/-- A stream of frames the dispatcher accepts (45_processor.md R131(c), 43_frame_buffer.md R118): presented from reset as
`PR_PROCESS` requests in any chunks, every frame is delivered once, in order, and counted, and the buffer ends empty.
The spec marks this as its own inference. -/
def Obligations.ValidStreamIsDelivered : Prop :=
  ∀ (p : Params) (fs : List Frame) (chunks : List (List Byte)),
    (∀ cap, p.qCap = some cap → chunks.flatten.length ≤ cap) → fs.length ≤ 2 ^ p.cntW - 1 →
    (∀ f ∈ fs, IsFrame f.raw ∧ dispGen p f.raw = .ok f) → chunks.flatten = (fs.map Frame.raw).flatten →
      ∃ t : State, Host.Core.run Sys2Proof.core chunks.length
          { State.resetWith p with requests := chunks.map processRequest } = .next t ∧
        t.sink = fs ∧ t.pr = ⟨FrameBuffer.empty, fs.length, 0⟩ ∧ t.requests = []

/-- A corrupted frame and a valid one behind it (45_processor.md R132(a), 70_reset_and_hazards.md R172), wherever the queue
has room for the chunk: in one chunk the valid frame is lost, with one filler byte between them it is delivered. The spec
marks this as its own inference. -/
def Obligations.CorruptedThenValidFrame : Prop :=
  ∀ (s : State) (bad good : List Byte), s.params.types = Config.regEx → s.params.marker = 0xC8 →
    (∀ cap, s.params.qCap = some cap → s.ops.chunk.length ≤ cap) →
    s.pr = ⟨⟨[], 0, false⟩, 0, 0⟩ → 1 ≤ s.params.cntW →
    bad = [0xC8, 0x04, 0x07, 0x00, 0x00, 0x24] → good = [0xC8, 0x04, 0x07, 0x00, 0x00, 0x23] →
      (s.ops.chunk = bad ++ good → Answers .prProcess s ⟨⟨[], 0, false⟩, 0, 1⟩ s.sink .ok .nothing) ∧
      (s.ops.chunk = bad ++ [0x00] ++ good →
        Answers .prProcess s ⟨⟨[], 0, false⟩, 1, 1⟩ (s.sink ++ [⟨.named .variometer, good⟩]) .ok .nothing)

/-- `PR_RSTAT` (45_processor.md R134): both counters are zeroed and nothing else is touched. -/
def Obligations.ResetStatisticsZeroesCounters : Prop :=
  encode .prRstat = .cmd8 0x73 ∧
  ∀ s : State, Answers .prRstat s ⟨s.pr.fb, 0, 0⟩ s.sink .ok .nothing

/-- `PR_ERATE` (45_processor.md R135): 0 when nothing has been processed, else `errors · 100 / processed` truncated. -/
def Obligations.ErrorRate : Prop :=
  encode .prErate = .cmd8 0x74 ∧
  ∀ s : State,
    (s.pr.processed = 0 → AnswersPure .prErate s .ok (.int 0)) ∧
    (∀ rate : Nat, 0 < s.pr.processed → s.pr.processed * rate ≤ s.pr.errors * 100 →
      s.pr.errors * 100 < s.pr.processed * (rate + 1) → AnswersPure .prErate s .ok (.int rate))
end

