-- ==== Sys2Proof/Laws/State.lean ====
section
/-! SUPPORT. One lemma per field for each update of the state. -/

namespace Sys2Proof.Machine

open Sys2Proof

@[simp] theorem State.done_pr (s : State) (st : Status) (r : Result) : (s.done st r).pr = s.pr := rfl
@[simp] theorem State.done_params (s : State) (st : Status) (r : Result) : (s.done st r).params = s.params := rfl
@[simp] theorem State.done_requests (s : State) (st : Status) (r : Result) : (s.done st r).requests = s.requests := rfl
@[simp] theorem State.done_ops (s : State) (st : Status) (r : Result) : (s.done st r).ops = Operands.idle := rfl
@[simp] theorem State.done_response (s : State) (st : Status) (r : Result) : (s.done st r).response = some ⟨st, r⟩ := rfl
@[simp] theorem State.done_sink (s : State) (st : Status) (r : Result) : (s.done st r).sink = s.sink := rfl

@[simp] theorem State.accept_pr (s : State) (r : Request) (l : List Request) : (s.accept r l).pr = s.pr := rfl
@[simp] theorem State.accept_params (s : State) (r : Request) (l : List Request) : (s.accept r l).params = s.params := rfl
@[simp] theorem State.accept_requests (s : State) (r : Request) (l : List Request) : (s.accept r l).requests = l := rfl
@[simp] theorem State.accept_ops (s : State) (r : Request) (l : List Request) : (s.accept r l).ops = r.operands := rfl
@[simp] theorem State.accept_response (s : State) (r : Request) (l : List Request) :
    (s.accept r l).response = s.response := rfl
@[simp] theorem State.accept_sink (s : State) (r : Request) (l : List Request) : (s.accept r l).sink = s.sink := rfl

@[simp] theorem State.withBuffer_pr (s : State) (fb : FrameBuffer) : (s.withBuffer fb).pr = s.pr.withBuffer fb := rfl
@[simp] theorem State.withBuffer_params (s : State) (fb : FrameBuffer) : (s.withBuffer fb).params = s.params := rfl
@[simp] theorem State.withBuffer_requests (s : State) (fb : FrameBuffer) : (s.withBuffer fb).requests = s.requests := rfl
@[simp] theorem State.withBuffer_ops (s : State) (fb : FrameBuffer) : (s.withBuffer fb).ops = s.ops := rfl
@[simp] theorem State.withBuffer_response (s : State) (fb : FrameBuffer) : (s.withBuffer fb).response = s.response := rfl
@[simp] theorem State.withBuffer_sink (s : State) (fb : FrameBuffer) : (s.withBuffer fb).sink = s.sink := rfl

@[simp] theorem Processor.withBuffer_fb (pr : Processor) (fb : FrameBuffer) : (pr.withBuffer fb).fb = fb := rfl
@[simp] theorem Processor.withBuffer_processed (pr : Processor) (fb : FrameBuffer) :
    (pr.withBuffer fb).processed = pr.processed := rfl
@[simp] theorem Processor.withBuffer_errors (pr : Processor) (fb : FrameBuffer) :
    (pr.withBuffer fb).errors = pr.errors := rfl

@[simp] theorem placeRequest_pr (s : State) (r : Request) : (placeRequest s r).pr = s.pr := rfl
@[simp] theorem placeRequest_params (s : State) (r : Request) : (placeRequest s r).params = s.params := rfl
@[simp] theorem placeRequest_requests (s : State) (r : Request) : (placeRequest s r).requests = r :: s.requests := rfl
@[simp] theorem placeRequest_ops (s : State) (r : Request) : (placeRequest s r).ops = s.ops := rfl
@[simp] theorem placeRequest_response (s : State) (r : Request) : (placeRequest s r).response = s.response := rfl
@[simp] theorem placeRequest_sink (s : State) (r : Request) : (placeRequest s r).sink = s.sink := rfl

@[simp] theorem State.resetWith_pr (p : Params) : (State.resetWith p).pr = ⟨FrameBuffer.empty, 0, 0⟩ := rfl
@[simp] theorem State.resetWith_params (p : Params) : (State.resetWith p).params = p := rfl
@[simp] theorem State.resetWith_requests (p : Params) : (State.resetWith p).requests = [] := rfl
@[simp] theorem State.resetWith_sink (p : Params) : (State.resetWith p).sink = [] := rfl

@[simp] theorem FrameBuffer.empty_q : FrameBuffer.empty.q = [] := rfl
@[simp] theorem FrameBuffer.empty_size : FrameBuffer.empty.size = 0 := rfl
@[simp] theorem FrameBuffer.empty_avail : FrameBuffer.empty.avail = false := rfl
@[simp] theorem FrameBuffer.qAppend_q (fb : FrameBuffer) (b : List Byte) : (fb.qAppend b).q = fb.q ++ b := rfl
@[simp] theorem FrameBuffer.qAppend_size (fb : FrameBuffer) (b : List Byte) : (fb.qAppend b).size = fb.size := rfl

end Sys2Proof.Machine
end

