-- ==== Sys2Proof/Laws/Ops.lean ====
section
/-! SUPPORT. What the ends of an operation, the port checks and the counters can do. -/

namespace Sys2Proof.Machine

open Sys2Proof Sys2Proof.Safety

theorem fitsSigned_iff (w : Nat) (x : Int) : fitsSigned w x = true ↔ isSigned w x := by
  simp [fitsSigned, isSigned]

theorem withinCap_iff (cap : Option Nat) (n : Nat) : withinCap cap n = true ↔ ∀ m, cap = some m → n ≤ m := by
  cases cap <;> simp [withinCap]

theorem withinCap_false_iff (cap : Option Nat) (n : Nat) :
    withinCap cap n = false ↔ ∃ m, cap = some m ∧ m < n := by
  cases cap <;> simp [withinCap]

theorem imageFits_iff (raw : List Byte) : imageFits raw = true ↔ raw.length ≤ 64 :=
  decide_eq_true_iff

theorem countUp_eq_some_iff (p : Params) (n m : Nat) :
    countUp p n = some m ↔ n < 2 ^ p.cntW - 1 ∧ m = n + 1 := by
  unfold countUp counterMax
  split
  · simp only [Option.some.injEq, eq_comm (a := m)]
    exact ⟨fun h => ⟨by assumption, h⟩, And.right⟩
  · simp only [reduceCtorEq, false_iff]
    omega

theorem countUp_eq_none_iff (p : Params) (n : Nat) : countUp p n = none ↔ 2 ^ p.cntW - 1 ≤ n := by
  unfold countUp counterMax
  split
  · simp only [reduceCtorEq, false_iff]; omega
  · simp only [true_iff]; omega

theorem State.guarded_true (s : State) (b : Except ErrorKind Result) : s.guarded true b = s.answer b := rfl

theorem State.guarded_false (s : State) (b : Except ErrorKind Result) : s.guarded false b = s.refuse := rfl

/-- What a guarded body can do: it is refused, or it succeeds with its result, or it raises its error. -/
theorem State.guarded_cases (s : State) (fits : Bool) (body : Except ErrorKind Result) :
    (fits = false ∧ s.guarded fits body = .next (s.done .refused .nothing)) ∨
    (∃ r, fits = true ∧ body = .ok r ∧ s.guarded fits body = .next (s.done .ok r)) ∨
    (∃ e, fits = true ∧ body = .error e ∧ s.guarded fits body = .next (s.done (.error e) .nothing)) := by
  cases fits with
  | false => exact .inl ⟨rfl, rfl⟩
  | true =>
    cases body with
    | ok r => exact .inr (.inl ⟨r, rfl, rfl, rfl⟩)
    | error e => exact .inr (.inr ⟨e, rfl, rfl, rfl⟩)

/-- What an accessor of an image byte can do. -/
theorem State.readImageByte_cases (s : State) (i : Nat) (body : Byte → Except ErrorKind Result) :
    s.readImageByte i body = .next (s.done .refused .nothing) ∨
    (∃ b r, s.ops.raw[i]? = some b ∧ body b = .ok r ∧ s.readImageByte i body = .next (s.done .ok r)) ∨
    (∃ b e, s.ops.raw[i]? = some b ∧ body b = .error e ∧
      s.readImageByte i body = .next (s.done (.error e) .nothing)) := by
  unfold State.readImageByte
  cases h : s.ops.raw[i]? with
  | none => exact .inl rfl
  | some b =>
    rcases s.guarded_cases (imageFits s.ops.raw) (body b) with ⟨_, h2⟩ | ⟨r, _, h1, h2⟩ | ⟨e, _, h1, h2⟩
    · exact .inl h2
    · exact .inr (.inl ⟨b, r, rfl, h1, h2⟩)
    · exact .inr (.inr ⟨b, e, rfl, h1, h2⟩)

theorem State.readImageByte_of_some {s : State} {i : Nat} {b : Byte} (hl : s.ops.raw.length ≤ 64)
    (hb : s.ops.raw[i]? = some b) (body : Byte → Except ErrorKind Result) :
    s.readImageByte i body = s.answer (body b) := by
  simp [State.readImageByte, hb, (imageFits_iff _).2 hl, State.guarded_true]

theorem State.readImageByte_of_short {s : State} {i : Nat} (hl : s.ops.raw.length ≤ i)
    (body : Byte → Except ErrorKind Result) : s.readImageByte i body = s.refuse := by
  simp [State.readImageByte, List.getElem?_eq_none hl]

theorem State.readImageByte_of_long {s : State} (hl : 64 < s.ops.raw.length) (i : Nat)
    (body : Byte → Except ErrorKind Result) : s.readImageByte i body = s.refuse := by
  have : imageFits s.ops.raw = false := by
    rw [← Bool.not_eq_true, imageFits_iff]; omega
  unfold State.readImageByte
  split
  · rw [this]; rfl
  · rfl

/-- What the recovery sequence does: the error is counted and the buffer resynchronizes, or the counter refuses. -/
theorem Processor.recover_eq_some_iff (p : Params) (pr pr' : Processor) :
    pr.recover p = some pr' ↔
      pr.errors < 2 ^ p.cntW - 1 ∧ pr' = ⟨(pr.fb.resync p.marker).2, pr.processed, pr.errors + 1⟩ := by
  unfold Processor.recover
  cases h : countUp p pr.errors with
  | none =>
    have := (countUp_eq_none_iff _ _).1 h
    constructor
    · intro h'; cases h'
    · rintro ⟨h1, _⟩; omega
  | some n =>
    obtain ⟨h1, rfl⟩ := (countUp_eq_some_iff _ _ _).1 h
    constructor
    · intro h'; cases h'; exact ⟨h1, rfl⟩
    · rintro ⟨_, rfl⟩; rfl

theorem Processor.recover_eq_none_iff (p : Params) (pr : Processor) :
    pr.recover p = none ↔ 2 ^ p.cntW - 1 ≤ pr.errors := by
  unfold Processor.recover
  cases h : countUp p pr.errors with
  | none => simp [(countUp_eq_none_iff _ _).1 h]
  | some n =>
    obtain ⟨h1, _⟩ := (countUp_eq_some_iff _ _ _).1 h
    constructor
    · intro h'; cases h'
    · intro h'; omega

end Sys2Proof.Machine
end

