-- ==== Sys2Proof/Laws/Buffer.lean ====
section
/-! SUPPORT. What DERIVE, the resynchronization and an extraction do, as functions of the queue. -/

namespace Sys2Proof.Machine

open Sys2Proof Sys2Proof.Safety

@[simp] theorem derivedBuffer_q (q : List Byte) : (derivedBuffer q).q = q := rfl
@[simp] theorem derivedBuffer_size (q : List Byte) : (derivedBuffer q).size = declaredSize q := rfl
@[simp] theorem derivedBuffer_nil : derivedBuffer [] = FrameBuffer.empty := rfl

theorem derivedBuffer_avail_iff (q : List Byte) : (derivedBuffer q).avail = true ↔
    (declaredSize q ≠ 0 ∧ declaredSize q ≤ q.length) ∨ 130 ≤ q.length := by
  simp [derivedBuffer]

/-- The declared size: 0, or a second byte `d` in 1..64 and `d + 2`. -/
theorem declaredSize_cases (q : List Byte) :
    (declaredSize q = 0 ∧ ∀ d, q[1]? = some d → 3 ≤ q.length → d.toNat = 0 ∨ 64 < d.toNat) ∨
    (3 ≤ q.length ∧ ∃ d, q[1]? = some d ∧ declaredSize q = d.toNat + 2 ∧ 1 ≤ d.toNat ∧ d.toNat ≤ 64) := by
  rcases q with _ | ⟨a, _ | ⟨d, _ | ⟨c, q⟩⟩⟩
  · exact .inl ⟨rfl, by simp⟩
  · exact .inl ⟨rfl, by simp⟩
  · exact .inl ⟨rfl, by simp⟩
  · by_cases h : 1 ≤ d.toNat ∧ d.toNat ≤ 64
    · exact .inr ⟨by simp, d, by simp, by simp [declaredSize, h], h⟩
    · refine .inl ⟨by simp [declaredSize, h], ?_⟩
      intro d' hd' _
      simp only [List.getElem?_cons_succ, List.getElem?_cons_zero, Option.some.injEq] at hd'
      subst hd'; omega

/-- DERIVE with a cached hypothesis changes the flag only. -/
theorem FrameBuffer.derive_of_size_ne_zero {fb : FrameBuffer} (h : fb.size ≠ 0) :
    fb.derive = ⟨fb.q, fb.size, decide ((fb.size ≠ 0 ∧ fb.size ≤ fb.q.length) ∨ 130 ≤ fb.q.length)⟩ := by
  simp [FrameBuffer.derive, FrameBuffer.deriveSize, FrameBuffer.available, h, Config.hardCap, Config.frameMaxSize]

theorem FrameBuffer.deriveSize_of_size_zero {fb : FrameBuffer} (h : fb.size = 0) :
    fb.deriveSize = ⟨fb.q, declaredSize fb.q, fb.avail⟩ := by
  obtain ⟨q, size, avail⟩ := fb
  simp only at h
  subst h
  rcases q with _ | ⟨a, _ | ⟨d, _ | ⟨c, q⟩⟩⟩
  · rfl
  · rfl
  · rfl
  · simp only [FrameBuffer.deriveSize, declaredSize, sizeOfLengthByte]
    rfl

/-- DERIVE with no hypothesis depends on the queue alone. -/
theorem FrameBuffer.derive_of_size_zero {fb : FrameBuffer} (h : fb.size = 0) : fb.derive = derivedBuffer fb.q := by
  simp [FrameBuffer.derive, FrameBuffer.deriveSize_of_size_zero h, FrameBuffer.available, derivedBuffer, Config.hardCap,
    Config.frameMaxSize]

@[simp] theorem FrameBuffer.derive_q (fb : FrameBuffer) : fb.derive.q = fb.q := by
  by_cases h : fb.size = 0
  · rw [FrameBuffer.derive_of_size_zero h]; rfl
  · rw [FrameBuffer.derive_of_size_ne_zero h]

/-- The invariant says that the buffer is the one its queue determines. -/
theorem bufferInvariant_iff (fb : FrameBuffer) : BufferInvariant fb ↔ fb = derivedBuffer fb.q := by
  obtain ⟨q, size, avail⟩ := fb
  constructor
  · rintro ⟨h1, h2, h3, h4⟩
    simp only at h1 h2 h3 h4
    have hs : size = declaredSize q := by
      rcases declaredSize_cases q with ⟨hd, hq⟩ | ⟨hl, d, hq, hd, hr⟩
      · rw [hd]
        by_contra hne
        obtain ⟨hl, d, hd1, hd2, hd3, hd4⟩ := h3 hne
        have := hq d hd1 hl
        omega
      · by_contra hne
        by_cases h0 : size = 0
        · obtain ⟨d', hd1, hd2⟩ := h4 h0 hl
          rw [hq, Option.some.injEq] at hd1
          subst hd1; omega
        · obtain ⟨_, d', hd1, hd2, _⟩ := h3 h0
          rw [hq, Option.some.injEq] at hd1
          subst hd1; omega
    subst hs
    have : avail = decide ((declaredSize q ≠ 0 ∧ declaredSize q ≤ q.length) ∨ 130 ≤ q.length) := by
      rw [Bool.eq_iff_iff, h1, decide_eq_true_iff]
    rw [this]; rfl
  · intro h
    simp only [derivedBuffer, FrameBuffer.mk.injEq, true_and] at h
    obtain ⟨rfl, ha⟩ := h
    refine ⟨by simp only [ha, decide_eq_true_iff], ?_, ?_, ?_⟩
    · rcases declaredSize_cases q with ⟨hd, _⟩ | ⟨_, d, _, hd, _⟩ <;> simp only <;> omega
    · intro hne
      rcases declaredSize_cases q with ⟨hd, _⟩ | ⟨hl, d, hq, hd, hr⟩
      · exact absurd hd hne
      · exact ⟨hl, d, hq, hd, hr⟩
    · intro h0 hl
      rcases declaredSize_cases q with ⟨_, hq⟩ | ⟨_, d, _, hd, _⟩
      · have hlt : 1 < q.length := by simp only at hl; omega
        exact ⟨q[1], List.getElem?_eq_getElem hlt, hq _ (List.getElem?_eq_getElem hlt) hl⟩
      · simp only at h0; omega

theorem bufferInvariant_derivedBuffer (q : List Byte) : BufferInvariant (derivedBuffer q) :=
  (bufferInvariant_iff _).2 rfl

theorem bufferInvariant_empty : BufferInvariant FrameBuffer.empty := bufferInvariant_derivedBuffer []

/-- The resynchronization loop: no marker behind the head and flushed, or it stops at the first one, derived. -/
theorem resyncLoop_cases (m : Byte) (q : List Byte) :
    (m ∉ q.tail ∧ resyncLoop m q = (false, FrameBuffer.empty)) ∨
    (∃ pre post, q.tail = pre ++ m :: post ∧ m ∉ pre ∧ resyncLoop m q = (true, derivedBuffer (m :: post))) := by
  induction q with
  | nil => exact .inl ⟨by simp, rfl⟩
  | cons a rest ih =>
    rcases rest with _ | ⟨b, rest⟩
    · exact .inl ⟨by simp, rfl⟩
    · by_cases hb : b = m
      · subst hb
        refine .inr ⟨[], rest, rfl, by simp, ?_⟩
        simp [resyncLoop, FrameBuffer.derive_of_size_zero]
      · have hstep : resyncLoop m (a :: b :: rest) = resyncLoop m (b :: rest) := by
          simp [resyncLoop, hb]
        rw [hstep]
        rcases ih with ⟨hm, h⟩ | ⟨pre, post, hq, hm, h⟩
        · refine .inl ⟨?_, h⟩
          simp only [List.tail_cons, List.mem_cons, not_or]
          exact ⟨fun e => hb e.symm, hm⟩
        · refine .inr ⟨b :: pre, post, ?_, ?_, h⟩
          · simpa using hq
          · simp only [List.mem_cons, not_or]
            exact ⟨fun e => hb e.symm, hm⟩

/-- What a resynchronization does: flushed, or at the first marker behind the head; the hypothesis it starts with does
not matter. -/
theorem FrameBuffer.resync_cases (m : Byte) (fb : FrameBuffer) :
    (m ∉ fb.q.tail ∧ fb.resync m = (false, FrameBuffer.empty)) ∨
    (∃ pre post, fb.q.tail = pre ++ m :: post ∧ m ∉ pre ∧ fb.resync m = (true, derivedBuffer (m :: post))) :=
  resyncLoop_cases m fb.q

theorem FrameBuffer.resync_suffix (m : Byte) (fb : FrameBuffer) : ∃ lost, fb.q = lost ++ (fb.resync m).2.q := by
  rcases fb.resync_cases m with ⟨_, h⟩ | ⟨pre, post, hq, _, h⟩
  · exact ⟨fb.q, by simp [h]⟩
  · rcases hfb : fb.q with _ | ⟨a, q⟩
    · rw [hfb] at hq; simp at hq
    · refine ⟨a :: pre, ?_⟩
      rw [hfb, List.tail_cons] at hq
      simp [h, hq]

theorem FrameBuffer.resync_shorter {m : Byte} {fb : FrameBuffer} (h : (fb.resync m).1 = true) :
    (fb.resync m).2.q.length < fb.q.length := by
  rcases fb.resync_cases m with ⟨_, h'⟩ | ⟨pre, post, hq, _, h'⟩
  · rw [h'] at h; cases h
  · have := congrArg List.length hq
    rw [h']
    simp only [List.length_tail, List.length_append, List.length_cons, derivedBuffer_q] at this ⊢
    omega

theorem FrameBuffer.resync_invariant (m : Byte) (fb : FrameBuffer) : BufferInvariant (fb.resync m).2 := by
  rcases fb.resync_cases m with ⟨_, h⟩ | ⟨_, post, _, _, h⟩
  · rw [h]; exact bufferInvariant_empty
  · rw [h]; exact bufferInvariant_derivedBuffer _

/-- The pop: exactly `FB.S` bytes, and the remainder derived. -/
theorem FrameBuffer.pop_eq (fb : FrameBuffer) : fb.pop = (fb.q.take fb.size, derivedBuffer (fb.q.drop fb.size)) := by
  simp [FrameBuffer.pop, FrameBuffer.qTake, FrameBuffer.derive_of_size_zero]

theorem FrameBuffer.mustResync_iff (fb : FrameBuffer) :
    fb.mustResync = true ↔ fb.size = 0 ∨ 64 < fb.size ∨ fb.q.length < fb.size :=
  decide_eq_true_iff

/-- The number of retries allowed does not matter once it exceeds the queue's length. -/
theorem FrameBuffer.getWithin_eq_get (m : Byte) :
    ∀ (n : Nat) (fb : FrameBuffer), fb.q.length < n → FrameBuffer.getWithin m n fb = fb.get m := by
  have key : ∀ (n k : Nat) (fb : FrameBuffer), fb.q.length < n → fb.q.length < k →
      FrameBuffer.getWithin m n fb = FrameBuffer.getWithin m k fb := by
    intro n
    induction n with
    | zero => intro k fb h; omega
    | succ n ih =>
      intro k fb hn hk
      obtain ⟨k, rfl⟩ : ∃ j, k = j + 1 := ⟨k - 1, by omega⟩
      simp only [FrameBuffer.getWithin]
      split
      · split
        · have := FrameBuffer.resync_shorter (fb := fb) (m := m) (by assumption)
          exact ih k _ (by omega) (by omega)
        · rfl
      · rfl
  intro n fb h
  exact key _ _ _ h (Nat.lt_succ_self _)

/-- `FB_GET` when the hypothesis is plausible and met. -/
theorem FrameBuffer.get_of_met {m : Byte} {fb : FrameBuffer} (h0 : fb.size ≠ 0) (h1 : fb.size ≤ 64)
    (h2 : fb.size ≤ fb.q.length) : fb.get m = (some (fb.q.take fb.size), derivedBuffer (fb.q.drop fb.size)) := by
  have : fb.mustResync = false := by
    rw [← Bool.not_eq_true, FrameBuffer.mustResync_iff]; omega
  simp [FrameBuffer.get, FrameBuffer.getWithin, this, FrameBuffer.pop_eq]

/-- `FB_GET` when it must resynchronize and finds a marker: it tries again. -/
theorem FrameBuffer.get_of_found {m : Byte} {fb : FrameBuffer} (h : fb.mustResync = true)
    (hf : (fb.resync m).1 = true) : fb.get m = (fb.resync m).2.get m := by
  have := FrameBuffer.resync_shorter hf
  rw [← FrameBuffer.getWithin_eq_get m fb.q.length _ this]
  simp [FrameBuffer.get, FrameBuffer.getWithin, h, hf]

/-- `FB_GET` when it must resynchronize and finds none: nothing, and the buffer is empty. -/
theorem FrameBuffer.get_of_not_found {m : Byte} {fb : FrameBuffer} (h : fb.mustResync = true)
    (hf : (fb.resync m).1 = false) : fb.get m = (none, FrameBuffer.empty) := by
  have h2 : (fb.resync m).2 = FrameBuffer.empty := by
    rcases fb.resync_cases m with ⟨_, h'⟩ | ⟨_, _, _, _, h'⟩ <;> rw [h'] at hf ⊢
    cases hf
  simp [FrameBuffer.get, FrameBuffer.getWithin, h, hf, h2]

/-- Everything `FB_GET` can do: it returns nothing and leaves the buffer empty, or it returns 1 to 64 bytes that stood
somewhere in the queue and leaves what is behind them, derived. -/
theorem FrameBuffer.get_cases (m : Byte) : ∀ fb : FrameBuffer,
    fb.get m = (none, FrameBuffer.empty) ∨
    ∃ lost raw rest, fb.q = lost ++ raw ++ rest ∧ 1 ≤ raw.length ∧ raw.length ≤ 64 ∧
      (raw.length = fb.size ∧ lost = [] ∨ raw.length = declaredSize (raw ++ rest)) ∧
      fb.get m = (some raw, derivedBuffer rest) := by
  have key : ∀ (n : Nat) (fb : FrameBuffer), fb.q.length ≤ n →
    fb.get m = (none, FrameBuffer.empty) ∨
    ∃ lost raw rest, fb.q = lost ++ raw ++ rest ∧ 1 ≤ raw.length ∧ raw.length ≤ 64 ∧
      (raw.length = fb.size ∧ lost = [] ∨ raw.length = declaredSize (raw ++ rest)) ∧
      fb.get m = (some raw, derivedBuffer rest) := by
    intro n
    induction n with
    | zero =>
      intro fb hn
      have hq : fb.q = [] := List.eq_nil_of_length_eq_zero (by omega)
      have hm : fb.mustResync = true := by
        rw [FrameBuffer.mustResync_iff, hq, List.length_nil]; omega
      refine .inl (FrameBuffer.get_of_not_found hm ?_)
      simp [FrameBuffer.resync, hq, resyncLoop]
    | succ n ih =>
      intro fb hn
      by_cases hm : fb.mustResync = true
      · cases hf : (fb.resync m).1 with
        | false => exact .inl (FrameBuffer.get_of_not_found hm hf)
        | true =>
          rw [FrameBuffer.get_of_found hm hf]
          have hs := FrameBuffer.resync_shorter hf
          rcases ih (fb.resync m).2 (by omega) with h | ⟨lost, raw, rest, hq, h1, h2, h3, h4⟩
          · exact .inl h
          · obtain ⟨l, hl⟩ := fb.resync_suffix m
            refine .inr ⟨l ++ lost, raw, rest, by rw [hl, hq]; simp, h1, h2, .inr ?_, h4⟩
            rcases h3 with ⟨h3, rfl⟩ | h3
            · have := (bufferInvariant_iff _).1 (fb.resync_invariant m)
              rw [this] at h3
              simp only [List.nil_append] at hq
              rw [h3, derivedBuffer_size, hq]
            · exact h3
      · rw [FrameBuffer.mustResync_iff] at hm
        refine .inr ⟨[], fb.q.take fb.size, fb.q.drop fb.size, by simp, ?_, ?_, .inl ⟨?_, rfl⟩,
          FrameBuffer.get_of_met (by omega) (by omega) (by omega)⟩
        all_goals simp only [List.length_take]; omega
  exact fun fb => key _ fb (Nat.le_refl _)

theorem FrameBuffer.get_invariant (m : Byte) (fb : FrameBuffer) : BufferInvariant (fb.get m).2 := by
  rcases fb.get_cases m with h | ⟨_, _, rest, _, _, _, _, h⟩ <;> rw [h]
  · exact bufferInvariant_empty
  · exact bufferInvariant_derivedBuffer _

theorem FrameBuffer.get_suffix (m : Byte) (fb : FrameBuffer) : ∃ lost, fb.q = lost ++ (fb.get m).2.q := by
  rcases fb.get_cases m with h | ⟨lost, raw, rest, hq, _, _, _, h⟩ <;> rw [h]
  · exact ⟨fb.q, by simp⟩
  · exact ⟨lost ++ raw, by simpa using hq⟩

theorem FrameBuffer.get_shorter {m : Byte} {fb : FrameBuffer} (h : fb.q ≠ []) :
    (fb.get m).2.q.length < fb.q.length := by
  rcases fb.get_cases m with h' | ⟨lost, raw, rest, hq, h1, _, _, h'⟩ <;> rw [h']
  · simpa [List.length_pos_iff] using h
  · rw [hq]
    simp only [derivedBuffer_q, List.length_append]; omega

/-- What `FB_ADD` can do: nothing on an empty chunk, or the chunk joins the tail and the buffer is derived. -/
theorem FrameBuffer.add_eq_some {p : Params} {c : List Byte} {fb fb' : FrameBuffer} (h : fb.add p c = some fb') :
    (c = [] ∧ fb' = fb) ∨
    (c ≠ [] ∧ (∀ cap, p.qCap = some cap → fb.q.length + c.length ≤ cap) ∧ fb' = (fb.qAppend c).derive) := by
  unfold FrameBuffer.add at h
  split at h
  · exact .inl ⟨by assumption, by simpa using h.symm⟩
  · split at h
    · exact .inr ⟨by assumption, (withinCap_iff _ _).1 (by assumption), by simpa using h.symm⟩
    · cases h

theorem FrameBuffer.add_q {p : Params} {c : List Byte} {fb fb' : FrameBuffer} (h : fb.add p c = some fb') :
    fb'.q = fb.q ++ c := by
  rcases FrameBuffer.add_eq_some h with ⟨rfl, rfl⟩ | ⟨_, _, rfl⟩ <;> simp

/-- Bytes behind a declared size do not change it. -/
theorem declaredSize_append {q : List Byte} (h : declaredSize q ≠ 0) (c : List Byte) :
    declaredSize (q ++ c) = declaredSize q := by
  rcases q with _ | ⟨a, _ | ⟨d, _ | ⟨e, q⟩⟩⟩ <;> simp_all [declaredSize]

/-- On a buffer that its queue determines, `FB_ADD` gives the buffer the longer queue determines. -/
theorem FrameBuffer.add_derivedBuffer {p : Params} {q c : List Byte} {fb' : FrameBuffer}
    (h : (derivedBuffer q).add p c = some fb') : fb' = derivedBuffer (q ++ c) := by
  rcases FrameBuffer.add_eq_some h with ⟨rfl, rfl⟩ | ⟨_, _, rfl⟩
  · simp
  · by_cases h0 : declaredSize q = 0
    · rw [FrameBuffer.derive_of_size_zero (by simpa using h0)]; simp
    · rw [FrameBuffer.derive_of_size_ne_zero (by simpa using h0)]
      simp [derivedBuffer, declaredSize_append h0]

theorem FrameBuffer.add_invariant {p : Params} {c : List Byte} {fb fb' : FrameBuffer} (hi : BufferInvariant fb)
    (h : fb.add p c = some fb') : BufferInvariant fb' := by
  rw [bufferInvariant_iff] at hi
  rw [hi] at h
  rw [FrameBuffer.add_derivedBuffer h]
  exact bufferInvariant_derivedBuffer _

end Sys2Proof.Machine
end

