-- ==== Sys2Proof/Laws/Checksum.lean ====
section
/-! SUPPORT. What the checksum and the two envelope constructions built on it can answer. -/

namespace Sys2Proof.Machine

open Sys2Proof

theorem crcFold_append_singleton (poly : Byte) (bs : List Byte) (b : Byte) :
    crcFold poly (bs ++ [b]) = crcStep poly (crcFold poly bs) b := by
  simp [crcFold]

/-- The checksum of a range: an empty or outside range raises `InvalidRange`, any other gives the fold over it. -/
theorem crc8_cases (poly : Byte) (data : List Byte) (start stop : Int) :
    ((stop ≤ start ∨ start < 0 ∨ (data.length : Int) < stop) ∧ crc8 poly data start stop = .error .invalidRange) ∨
    (0 ≤ start ∧ start < stop ∧ stop ≤ data.length ∧
      crc8 poly data start stop = .ok (crcFold poly (slice data start.toNat stop.toNat))) := by
  unfold crc8
  split
  · exact .inl ⟨by assumption, rfl⟩
  · exact .inr ⟨by omega, by omega, by omega, rfl⟩

/-- The base construction: `InvalidRange` on 3 bytes or fewer, else the stored last byte against the checksum. -/
theorem envNew_cases (raw : List Byte) :
    (raw.length ≤ 3 ∧ envNew raw = .error .invalidRange) ∨
    (4 ≤ raw.length ∧ raw[raw.length - 1]? = some (crcFold Config.polyProd (slice raw 2 (raw.length - 1))) ∧
      envNew raw = .ok ()) ∨
    (4 ≤ raw.length ∧ raw[raw.length - 1]? ≠ some (crcFold Config.polyProd (slice raw 2 (raw.length - 1))) ∧
      envNew raw = .error .corruptedFrame) := by
  rcases crc8_cases Config.polyProd raw 2 ((raw.length : Int) - 1) with ⟨h, he⟩ | ⟨_, h, _, he⟩
  · exact .inl ⟨by omega, by simp [envNew, he]⟩
  · have hs : slice raw (2 : Int).toNat ((raw.length : Int) - 1).toNat = slice raw 2 (raw.length - 1) := by
      congr 1; omega
    by_cases hc : raw[raw.length - 1]? = some (crcFold Config.polyProd (slice raw 2 (raw.length - 1)))
    · exact .inr (.inl ⟨by omega, hc, by simp only [envNew, he, hs, if_pos hc]⟩)
    · exact .inr (.inr ⟨by omega, hc, by simp only [envNew, he, hs, if_neg hc]⟩)

/-- The extended construction: the base one first, then the minimum of 6 bytes. -/
theorem xenvNew_cases (raw : List Byte) :
    (∃ e, envNew raw = .error e ∧ xenvNew raw = .error e) ∨
    (envNew raw = .ok () ∧ raw.length < 6 ∧ xenvNew raw = .error .invalidLength) ∨
    (envNew raw = .ok () ∧ 6 ≤ raw.length ∧ xenvNew raw = .ok ()) := by
  unfold xenvNew
  cases h : envNew raw with
  | error e => exact .inl ⟨e, rfl, rfl⟩
  | ok u =>
    by_cases hl : raw.length < 6
    · exact .inr (.inl ⟨rfl, hl, by simp [Config.extMinSize, hl]⟩)
    · exact .inr (.inr ⟨rfl, by omega, by simp [Config.extMinSize, hl]⟩)

/-- The outbound layout: 65 bytes or more raise `InvalidLength`, anything shorter is built. -/
theorem envBuild_cases (addr type : Byte) (payload : List Byte) :
    (60 < payload.length ∧ envBuild addr type payload = .error .invalidLength) ∨
    (payload.length ≤ 60 ∧ envBuild addr type payload = .ok
      ([addr, BitVec.ofNat 8 (payload.length + 2)] ++ (type :: payload) ++ [crcFold Config.polyProd (type :: payload)])) := by
  have hm : Config.frameMaxSize = 64 := rfl
  by_cases h : 60 < payload.length
  · refine .inl ⟨h, ?_⟩
    unfold envBuild
    exact if_pos (by omega)
  · refine .inr ⟨by omega, ?_⟩
    rcases crc8_cases Config.polyProd (type :: payload) 0 ((payload.length : Int) + 1) with ⟨hb, _⟩ | ⟨_, _, _, he⟩
    · simp only [List.length_cons] at hb; omega
    · have hs : slice (type :: payload) (0 : Int).toNat ((payload.length : Int) + 1).toNat = type :: payload := by
        have : ((payload.length : Int) + 1).toNat = payload.length + 1 := by omega
        simp [slice, this]
      unfold envBuild
      rw [hs] at he
      simp only [he]
      exact if_neg (by omega)

end Sys2Proof.Machine
end

