-- ==== Sys2Proof/Laws/Processing.lean ====
section
/-! SUPPORT. What `PR_BUILD` and the drain loop do. -/

namespace Sys2Proof.Machine

open Sys2Proof Sys2Proof.Safety

/-- The counted errors are those of code 1 to 4. -/
theorem counted_iff (e : ErrorKind) :
    ErrorKind.counted e = true ↔ 1 ≤ (Status.error e).code.toNat ∧ (Status.error e).code.toNat ≤ 4 := by
  cases e <;> decide

/-- Everything `PR_BUILD` can do with an extracted image. -/
theorem Processor.settle_cases {p : Params} {pr pr' : Processor} {a : Except ErrorKind Frame} {f : Option Frame}
    (h : pr.settle p a = some (f, pr')) :
    (∃ fr, a = .ok fr ∧ f = some fr ∧ pr.processed < 2 ^ p.cntW - 1 ∧
      pr' = ⟨pr.fb, pr.processed + 1, pr.errors⟩) ∨
    (∃ e, a = .error e ∧ ErrorKind.counted e = true ∧ f = none ∧ pr.errors < 2 ^ p.cntW - 1 ∧
      pr' = ⟨(pr.fb.resync p.marker).2, pr.processed, pr.errors + 1⟩) ∨
    (∃ e, a = .error e ∧ ErrorKind.counted e = false ∧ f = none ∧ pr' = pr) := by
  unfold Processor.settle at h
  split at h
  · split at h
    · rename_i fr _ n hn
      obtain ⟨h1, rfl⟩ := (countUp_eq_some_iff _ _ _).1 hn
      cases h
      exact .inl ⟨fr, rfl, rfl, h1, rfl⟩
    · cases h
  · rename_i e
    split at h
    · rename_i hc
      split at h
      · rename_i pr'' hr
        cases h
        obtain ⟨h1, rfl⟩ := (Processor.recover_eq_some_iff _ _ _).1 hr
        exact .inr (.inl ⟨e, rfl, hc, rfl, h1, rfl⟩)
      · cases h
    · cases h
      exact .inr (.inr ⟨e, rfl, by simpa using ‹¬ ErrorKind.counted e = true›, rfl, rfl⟩)

/-- Everything `PR_BUILD` can do: nothing extracted; a frame built and counted; an error counted and recovered from; or an
error swallowed. -/
theorem Processor.build_cases {p : Params} {pr pr' : Processor} {f : Option Frame} (h : pr.build p = some (f, pr')) :
    ((pr.fb.get p.marker).1 = none ∧ f = none ∧ pr' = pr.withBuffer (pr.fb.get p.marker).2) ∨
    ∃ raw, (pr.fb.get p.marker).1 = some raw ∧
      ((∃ fr, dispGen p raw = .ok fr ∧ f = some fr ∧ pr.processed < 2 ^ p.cntW - 1 ∧
          pr' = ⟨(pr.fb.get p.marker).2, pr.processed + 1, pr.errors⟩) ∨
        (∃ e, dispGen p raw = .error e ∧ ErrorKind.counted e = true ∧ f = none ∧ pr.errors < 2 ^ p.cntW - 1 ∧
          pr' = ⟨((pr.fb.get p.marker).2.resync p.marker).2, pr.processed, pr.errors + 1⟩) ∨
        (∃ e, dispGen p raw = .error e ∧ ErrorKind.counted e = false ∧ f = none ∧
          pr' = pr.withBuffer (pr.fb.get p.marker).2)) := by
  unfold Processor.build at h
  rcases hg : pr.fb.get p.marker with ⟨_ | raw, fb⟩
  · rw [hg] at h
    cases h
    exact .inl ⟨rfl, rfl, rfl⟩
  · rw [hg] at h
    exact .inr ⟨raw, rfl, Processor.settle_cases h⟩

/-- `PR_BUILD` leaves an end of the queue. -/
theorem Processor.build_suffix {p : Params} {pr pr' : Processor} {f : Option Frame} (h : pr.build p = some (f, pr')) :
    ∃ lost, pr.fb.q = lost ++ pr'.fb.q := by
  obtain ⟨l, hl⟩ := pr.fb.get_suffix p.marker
  rcases Processor.build_cases h with ⟨_, _, rfl⟩ | ⟨_, _, ⟨_, _, _, _, rfl⟩ | ⟨_, _, _, _, _, rfl⟩ | ⟨_, _, _, _, rfl⟩⟩
  · exact ⟨l, hl⟩
  · exact ⟨l, hl⟩
  · obtain ⟨l', hl'⟩ := (pr.fb.get p.marker).2.resync_suffix p.marker
    exact ⟨l ++ l', by rw [hl, List.append_assoc]; exact congrArg _ hl'⟩
  · exact ⟨l, hl⟩

/-- `PR_BUILD` leaves a buffer that its queue determines. -/
theorem Processor.build_invariant {p : Params} {pr pr' : Processor} {f : Option Frame}
    (h : pr.build p = some (f, pr')) : BufferInvariant pr'.fb := by
  rcases Processor.build_cases h with ⟨_, _, rfl⟩ | ⟨_, _, ⟨_, _, _, _, rfl⟩ | ⟨_, _, _, _, _, rfl⟩ | ⟨_, _, _, _, rfl⟩⟩
  · exact FrameBuffer.get_invariant _ _
  · exact FrameBuffer.get_invariant _ _
  · exact FrameBuffer.resync_invariant _ _
  · exact FrameBuffer.get_invariant _ _

/-- A round of the loop on a buffer that is not empty removes at least one byte. -/
theorem Processor.build_shorter {p : Params} {pr pr' : Processor} {f : Option Frame} (h : pr.build p = some (f, pr'))
    (hq : pr.fb.q ≠ []) : pr'.fb.q.length < pr.fb.q.length := by
  have hg := FrameBuffer.get_shorter (m := p.marker) hq
  rcases Processor.build_cases h with ⟨_, _, rfl⟩ | ⟨_, _, ⟨_, _, _, _, rfl⟩ | ⟨_, _, _, _, _, rfl⟩ | ⟨_, _, _, _, rfl⟩⟩
  · exact hg
  · exact hg
  · obtain ⟨l, hl⟩ := (pr.fb.get p.marker).2.resync_suffix p.marker
    have := congrArg List.length hl
    simp only [List.length_append] at this
    simp only; omega
  · exact hg

/-- What `PR_BUILD` does to the counters, and when a frame it returns is a success of the dispatcher. -/
theorem Processor.build_counts {p : Params} {pr pr' : Processor} {f : Option Frame} (h : pr.build p = some (f, pr')) :
    pr'.processed = pr.processed + f.toList.length ∧ pr.errors ≤ pr'.errors ∧
      (pr'.processed = pr.processed ∨ pr'.processed ≤ 2 ^ p.cntW - 1) ∧
      (pr'.errors = pr.errors ∨ pr'.errors ≤ 2 ^ p.cntW - 1) := by
  rcases Processor.build_cases h with ⟨_, rfl, rfl⟩ | ⟨_, _, ⟨_, _, rfl, hc, rfl⟩ | ⟨_, _, _, rfl, hc, rfl⟩ | ⟨_, _, _, rfl, rfl⟩⟩ <;>
    simp <;> omega

theorem available_empty {fb : FrameBuffer} (hi : BufferInvariant fb) (ha : fb.avail = true) : 3 ≤ fb.q.length := by
  obtain ⟨h1, _, h3, _⟩ := hi
  rcases h1.1 ha with ⟨h, _⟩ | h
  · exact (h3 h).1
  · omega

/-- The number of rounds allowed does not matter once it exceeds the queue's length. -/
theorem Processor.drainWithin_eq_drain (p : Params) (n : Nat) (pr : Processor) (hn : pr.fb.q.length < n) :
    Processor.drainWithin p n pr = pr.drain p := by
  have key : ∀ (n k : Nat) (pr : Processor), pr.fb.q.length < n → pr.fb.q.length < k →
      Processor.drainWithin p n pr = Processor.drainWithin p k pr := by
    intro n
    induction n with
    | zero => intro k pr h; omega
    | succ n ih =>
      intro k pr hn hk
      obtain ⟨k, rfl⟩ : ∃ j, k = j + 1 := ⟨k - 1, by omega⟩
      simp only [Processor.drainWithin]
      split
      · rcases hb : pr.build p with _ | ⟨f, pr'⟩
        · rfl
        · simp only
          have hstop : ∀ j, pr.fb.q = [] → Processor.drainWithin p j pr' = some ([], pr') := by
            intro j hq
            obtain ⟨l, hl⟩ := Processor.build_suffix hb
            rw [hq] at hl
            have hq' : pr'.fb.q = [] := (List.append_eq_nil_iff.1 hl.symm).2
            have hi := Processor.build_invariant hb
            cases j with
            | zero => rfl
            | succ j =>
              have : pr'.fb.avail = false := by
                by_contra hc
                have := available_empty hi (by simpa using hc)
                rw [hq'] at this; simp at this
              simp [Processor.drainWithin, this]
          by_cases hq : pr.fb.q = []
          · rw [hstop n hq, hstop k hq]
          · have := Processor.build_shorter hb hq
            rw [ih k pr' (by omega) (by omega)]
      · rfl
  exact key _ _ _ hn (Nat.lt_succ_self _)

/-- The drain loop when nothing is available. -/
theorem Processor.drain_of_not_avail {p : Params} {pr : Processor} (h : pr.fb.avail = false) :
    pr.drain p = some ([], pr) := by
  simp [Processor.drain, Processor.drainWithin, h]

/-- The drain loop when a counter refuses at once. -/
theorem Processor.drain_of_refused {p : Params} {pr : Processor} (h : pr.fb.avail = true) (hb : pr.build p = none) :
    pr.drain p = none := by
  simp [Processor.drain, Processor.drainWithin, h, hb]

/-- One round of the drain loop. -/
theorem Processor.drain_of_build {p : Params} {pr pr' : Processor} {f : Option Frame} (h : pr.fb.avail = true)
    (hb : pr.build p = some (f, pr')) :
    pr.drain p = (pr'.drain p).map (fun x => (f.toList ++ x.1, x.2)) := by
  have hd : Processor.drainWithin p pr.fb.q.length pr' = pr'.drain p := by
    by_cases hq : pr.fb.q = []
    · obtain ⟨l, hl⟩ := Processor.build_suffix hb
      rw [hq] at hl
      have hq' : pr'.fb.q = [] := (List.append_eq_nil_iff.1 hl.symm).2
      have hna : pr'.fb.avail = false := by
        by_contra hc
        have := available_empty (Processor.build_invariant hb) (by simpa using hc)
        rw [hq'] at this; simp at this
      rw [Processor.drain_of_not_avail hna, hq]; rfl
    · exact Processor.drainWithin_eq_drain p _ _ (Processor.build_shorter hb hq)
  rw [← hd]
  simp only [Processor.drain, Processor.drainWithin, h, hb, if_true]
  cases Processor.drainWithin p pr.fb.q.length pr' <;> rfl

/-- Induction along the drain loop: what holds when nothing is available, and is carried back over a round, holds of
every completed drain. -/
theorem Processor.drain_induction {p : Params} {motive : Processor → List Frame → Processor → Prop}
    (stop : ∀ pr, pr.fb.avail = false → motive pr [] pr)
    (round : ∀ pr f pr' fs pr'', pr.fb.avail = true → pr.build p = some (f, pr') → motive pr' fs pr'' →
      motive pr (f.toList ++ fs) pr'') :
    ∀ {pr fs pr''}, pr.drain p = some (fs, pr'') → motive pr fs pr'' := by
  have key : ∀ (n : Nat) (pr : Processor) (fs : List Frame) (pr'' : Processor), pr.fb.q.length < n →
      pr.drain p = some (fs, pr'') → motive pr fs pr'' := by
    intro n
    induction n with
    | zero => intro pr _ _ h; omega
    | succ n ih =>
      intro pr fs pr'' hn hd
      by_cases ha : pr.fb.avail = true
      · rcases hb : pr.build p with _ | ⟨f, pr'⟩
        · rw [Processor.drain_of_refused ha hb] at hd; cases hd
        · rw [Processor.drain_of_build ha hb] at hd
          obtain ⟨⟨gs, pr3⟩, hd', he⟩ := Option.map_eq_some_iff.1 hd
          cases he
          by_cases hq : pr.fb.q = []
          · obtain ⟨l, hl⟩ := Processor.build_suffix hb
            rw [hq] at hl
            have hq' : pr'.fb.q = [] := (List.append_eq_nil_iff.1 hl.symm).2
            have hna : pr'.fb.avail = false := by
              by_contra hc
              have := available_empty (Processor.build_invariant hb) (by simpa using hc)
              rw [hq'] at this; simp at this
            rw [Processor.drain_of_not_avail hna] at hd'
            cases hd'
            exact round _ _ _ _ _ ha hb (stop _ hna)
          · have := Processor.build_shorter hb hq
            exact round _ _ _ _ _ ha hb (ih pr' gs pr3 (by omega) hd')
      · have hna : pr.fb.avail = false := by simpa using ha
        rw [Processor.drain_of_not_avail hna] at hd
        cases hd
        exact stop _ hna
  intro pr fs pr'' h
  exact key _ _ _ _ (Nat.lt_succ_self _) h

theorem Processor.process_eq_some_iff {p : Params} {c : List Byte} {pr pr' : Processor} {fs : List Frame} :
    pr.process p c = some (fs, pr') ↔
      ∃ fb, pr.fb.add p c = some fb ∧ (pr.withBuffer fb).drain p = some (fs, pr') := by
  unfold Processor.process
  cases pr.fb.add p c <;> simp

end Sys2Proof.Machine
end

