-- ==== Sys2Proof/Laws/Exec.lean ====
section
/-! SUPPORT. What an operation can do, once for all operations: the inversion of `exec` and of `step`. -/

namespace Sys2Proof.Machine

open Sys2Proof Sys2Proof.Safety

/-- A response at the ports and nothing else changed, as a record update. -/
theorem State.done_eq (s : State) (st : Status) (r : Result) :
    s.done st r = { s with ops := Operands.idle, response := some ⟨st, r⟩ } := rfl

/-- What an operation of the pure units can do: it answers and writes no state element. -/
theorem exec_pure_cases {i : Instr} (h : pureInstr i = true) (s : State) :
    ∃ st r, exec i s = .next (s.done st r) := by
  have hg : ∀ fits body, ∃ st r, s.guarded fits body = .next (s.done st r) := by
    intro fits body
    rcases s.guarded_cases fits body with ⟨_, h⟩ | ⟨_, _, _, h⟩ | ⟨_, _, _, h⟩ <;> exact ⟨_, _, h⟩
  have hr : ∀ k body, ∃ st r, s.readImageByte k body = .next (s.done st r) := by
    intro k body
    rcases s.readImageByte_cases k body with h | ⟨_, _, _, _, h⟩ | ⟨_, _, _, _, h⟩ <;> exact ⟨_, _, h⟩
  have ha : ∀ a, ∃ st r, s.answer a = .next (s.done st r) := by
    intro a; cases a <;> exact ⟨_, _, rfl⟩
  cases i with
  | crc8 => exact hg _ _
  | chPack => exact hg _ _
  | chUnpack => exact hg _ _
  | chP2us => exact hg _ _
  | chUs2p => exact hg _ _
  | envNew => exact hg _ _
  | envNewRaw => exact hg _ _
  | envAddr => exact hr _ _
  | envLen => exact hr _ _
  | envType => exact hr _ _
  | envData => exact hg _ _
  | envCsum => exact hr _ _
  | envSize => exact hg _ _
  | envBuild => exact hg _ _
  | xenvNew => exact hg _ _
  | xenvDest => exact hr _ _
  | xenvSrc => exact hr _ _
  | xenvXtype => exact hr _ _
  | xenvData =>
    show ∃ st r, execXenvData s = _
    unfold execXenvData
    split
    · exact hg _ _
    · exact ⟨_, _, rfl⟩
  | dispGen => exact hg _ _
  | frameAttitude => exact ha _
  | frameVariometer => exact ha _
  | fbAdd => cases h
  | fbGet => cases h
  | fbResync => cases h
  | fbFlush => cases h
  | prProcess => cases h
  | prBuild => cases h
  | prFlush => cases h
  | prRstat => cases h
  | prErate => cases h

/-- What `FB_ADD` can do. -/
theorem execFbAdd_cases (s : State) :
    (s.pr.fb.add s.params s.ops.chunk = none ∧ execFbAdd s = .next (s.done .refused .nothing)) ∨
    ∃ fb, s.pr.fb.add s.params s.ops.chunk = some fb ∧ execFbAdd s = .next ((s.withBuffer fb).done .ok .nothing) := by
  unfold execFbAdd
  cases h : s.pr.fb.add s.params s.ops.chunk with
  | none => exact .inl ⟨rfl, rfl⟩
  | some fb => exact .inr ⟨fb, rfl, rfl⟩

/-- What `PR_BUILD` can do. -/
theorem execPrBuild_cases (s : State) :
    (s.pr.build s.params = none ∧ execPrBuild s = .next (s.done .refused .nothing)) ∨
    ∃ f pr, s.pr.build s.params = some (f, pr) ∧
      execPrBuild s = .next (State.done { s with pr := pr } .ok (frameResult f)) := by
  unfold execPrBuild
  cases h : s.pr.build s.params with
  | none => exact .inl ⟨rfl, rfl⟩
  | some x => exact .inr ⟨x.1, x.2, rfl, rfl⟩

/-- What `PR_PROCESS` can do. -/
theorem execPrProcess_cases (s : State) :
    (s.pr.process s.params s.ops.chunk = none ∧ execPrProcess s = .next (s.done .refused .nothing)) ∨
    ∃ fs pr, s.pr.process s.params s.ops.chunk = some (fs, pr) ∧
      execPrProcess s = .next (State.done { s with pr := pr, sink := s.sink ++ fs } .ok .nothing) := by
  unfold execPrProcess
  cases h : s.pr.process s.params s.ops.chunk with
  | none => exact .inl ⟨rfl, rfl⟩
  | some x => exact .inr ⟨x.1, x.2, rfl, rfl⟩

/-- Every operation in every state answers: the processor and the sink it leaves, a status and a result; the parameters
and the waiting requests are as before and the operand images are gone. -/
theorem exec_cases (i : Instr) (s : State) :
    ∃ pr fs st r, exec i s = .next (State.done { s with pr := pr, sink := s.sink ++ fs } st r) := by
  by_cases hp : pureInstr i = true
  · obtain ⟨st, r, h⟩ := exec_pure_cases hp s
    exact ⟨s.pr, [], st, r, by simpa using h⟩
  · cases i with
    | fbAdd =>
      rcases execFbAdd_cases s with ⟨_, h⟩ | ⟨fb, _, h⟩
      · exact ⟨s.pr, [], _, _, by rw [List.append_nil]; exact h⟩
      · exact ⟨s.pr.withBuffer fb, [], _, _, by rw [List.append_nil]; exact h⟩
    | fbGet =>
      exact ⟨s.pr.withBuffer (s.pr.fb.get s.params.marker).2, [], .ok, imageResult (s.pr.fb.get s.params.marker).1,
        by rw [List.append_nil]; rfl⟩
    | fbResync =>
      exact ⟨s.pr.withBuffer (s.pr.fb.resync s.params.marker).2, [], .ok, .found (s.pr.fb.resync s.params.marker).1,
        by rw [List.append_nil]; rfl⟩
    | fbFlush => exact ⟨s.pr.withBuffer s.pr.fb.flush, [], .ok, .nothing, by rw [List.append_nil]; rfl⟩
    | prProcess =>
      rcases execPrProcess_cases s with ⟨_, h⟩ | ⟨fs, pr, _, h⟩
      · exact ⟨s.pr, [], _, _, by rw [List.append_nil]; exact h⟩
      · exact ⟨pr, fs, _, _, h⟩
    | prBuild =>
      rcases execPrBuild_cases s with ⟨_, h⟩ | ⟨f, pr, _, h⟩
      · exact ⟨s.pr, [], _, _, by rw [List.append_nil]; exact h⟩
      · exact ⟨pr, [], _, _, by rw [List.append_nil]; exact h⟩
    | prFlush => exact ⟨s.pr.withBuffer s.pr.fb.flush, [], .ok, .nothing, by rw [List.append_nil]; rfl⟩
    | prRstat =>
      exact ⟨⟨s.pr.fb, 0, 0⟩, [], .ok, .nothing, by rw [List.append_nil]; rfl⟩
    | prErate =>
      exact ⟨s.pr, [], .ok, .int (errorRate s.pr.processed s.pr.errors), by rw [List.append_nil]; rfl⟩
    | crc8 => exact absurd rfl hp
    | chPack => exact absurd rfl hp
    | chUnpack => exact absurd rfl hp
    | chP2us => exact absurd rfl hp
    | chUs2p => exact absurd rfl hp
    | envNew => exact absurd rfl hp
    | envNewRaw => exact absurd rfl hp
    | envAddr => exact absurd rfl hp
    | envLen => exact absurd rfl hp
    | envType => exact absurd rfl hp
    | envData => exact absurd rfl hp
    | envCsum => exact absurd rfl hp
    | envSize => exact absurd rfl hp
    | envBuild => exact absurd rfl hp
    | xenvNew => exact absurd rfl hp
    | xenvDest => exact absurd rfl hp
    | xenvSrc => exact absurd rfl hp
    | xenvXtype => exact absurd rfl hp
    | xenvData => exact absurd rfl hp
    | dispGen => exact absurd rfl hp
    | frameAttitude => exact absurd rfl hp
    | frameVariometer => exact absurd rfl hp

/-- What a step can do: wait, refuse a word that is no row of the table, or run the decoded request. -/
theorem step_cases (s : State) :
    (s.requests = [] ∧ step s = .next s) ∨
    (∃ r rest e, s.requests = r :: rest ∧ decode r.word = .error e ∧
      step s = .next ((s.accept r rest).done .refused .nothing)) ∨
    (∃ r rest i, s.requests = r :: rest ∧ decode r.word = .ok i ∧ step s = exec i (s.accept r rest)) := by
  unfold step fetch
  cases hr : s.requests with
  | nil => exact .inl ⟨rfl, rfl⟩
  | cons r rest =>
    simp only
    cases hd : decode r.word with
    | ok i => exact .inr (.inr ⟨r, rest, i, rfl, hd, rfl⟩)
    | error e => exact .inr (.inl ⟨r, rest, e, rfl, hd, rfl⟩)

end Sys2Proof.Machine
end

