-- ==== Sys2Proof/Laws/PerInstr.lean ====
section
/-! SUPPORT. The family `RoundTrip`: each operation's word is a row of the opcode table and decodes to it. -/

namespace Sys2Proof.Laws.RoundTrip

open Sys2Proof

/-- The word of an operation is assigned and decodes to the operation (30_encoding.md R51 to R53). -/
def Statement (i : Instr) : Prop := (encode i).wellFormed = true ∧ decode (encode i) = .ok i

theorem crc8 : Statement .crc8 := ⟨rfl, rfl⟩
theorem chPack : Statement .chPack := ⟨rfl, rfl⟩
theorem chUnpack : Statement .chUnpack := ⟨rfl, rfl⟩
theorem chP2us : Statement .chP2us := ⟨rfl, rfl⟩
theorem chUs2p : Statement .chUs2p := ⟨rfl, rfl⟩
theorem envNew : Statement .envNew := ⟨rfl, rfl⟩
theorem envNewRaw : Statement .envNewRaw := ⟨rfl, rfl⟩
theorem envAddr : Statement .envAddr := ⟨rfl, rfl⟩
theorem envLen : Statement .envLen := ⟨rfl, rfl⟩
theorem envType : Statement .envType := ⟨rfl, rfl⟩
theorem envData : Statement .envData := ⟨rfl, rfl⟩
theorem envCsum : Statement .envCsum := ⟨rfl, rfl⟩
theorem envSize : Statement .envSize := ⟨rfl, rfl⟩
theorem envBuild : Statement .envBuild := ⟨rfl, rfl⟩
theorem xenvNew : Statement .xenvNew := ⟨rfl, rfl⟩
theorem xenvDest : Statement .xenvDest := ⟨rfl, rfl⟩
theorem xenvSrc : Statement .xenvSrc := ⟨rfl, rfl⟩
theorem xenvXtype : Statement .xenvXtype := ⟨rfl, rfl⟩
theorem xenvData : Statement .xenvData := ⟨rfl, rfl⟩
theorem fbAdd : Statement .fbAdd := ⟨rfl, rfl⟩
theorem fbGet : Statement .fbGet := ⟨rfl, rfl⟩
theorem fbResync : Statement .fbResync := ⟨rfl, rfl⟩
theorem fbFlush : Statement .fbFlush := ⟨rfl, rfl⟩
theorem dispGen : Statement .dispGen := ⟨rfl, rfl⟩
theorem prProcess : Statement .prProcess := ⟨rfl, rfl⟩
theorem prBuild : Statement .prBuild := ⟨rfl, rfl⟩
theorem prFlush : Statement .prFlush := ⟨rfl, rfl⟩
theorem prRstat : Statement .prRstat := ⟨rfl, rfl⟩
theorem prErate : Statement .prErate := ⟨rfl, rfl⟩
theorem frameAttitude : Statement .frameAttitude := ⟨rfl, rfl⟩
theorem frameVariometer : Statement .frameVariometer := ⟨rfl, rfl⟩

end Sys2Proof.Laws.RoundTrip
end

