-- ==== Sys2Proof/Tests/Slice0.lean ====
section
/-! SUPPORT. The model's own tests: ill-formed terms, words written out from the encoding tables, the vectors of
spec/95_test_vectors.md (each test names its vector), and for each statement with hypotheses a witness that meets them. -/

namespace Sys2Proof.Tests

open Sys2Proof Sys2Proof.Machine Sys2Proof.Safety

/- One after the other: as many kernel checks at once as there are theorems here would each take a thread's stack. -/
set_option Elab.async false

/-! Helpers. -/

/-- The two frames the source gives, V1 and V2. -/
def x1 : List Byte := [0xC8, 0x08, 0x1E, 0x00, 0x22, 0xFF, 0xA9, 0x3C, 0x10, 0xC4]
def x2 : List Byte := [0xC8, 0x04, 0x07, 0x00, 0x00, 0x23]
/-- Example 2 with its checksum changed, V24. -/
def x2bad : List Byte := [0xC8, 0x04, 0x07, 0x00, 0x00, 0x24]
/-- The extended image of V14. -/
def xExt : List Byte := [0xC8, 0x07, 0xF1, 0xEA, 0xEE, 0x01, 0xAA, 0xBB, 0x68]
/-- A 64-byte and a 65-byte image. -/
def x64 : List Byte := List.replicate 64 0x11
def x65 : List Byte := List.replicate 65 0x11

def ports (o : Operands) : State := { State.reset with ops := o }
def onRaw (raw : List Byte) : State := ports { Operands.idle with raw := raw }
def onKind (raw : List Byte) (k : KindOperand) : State := ports { Operands.idle with raw := raw, kind := k }
def onCrc (poly : Byte) (data : List Byte) (start stop : Int) : State :=
  ports { Operands.idle with poly := poly, data := data, start := start, stop := stop }
def onBuffer (fb : FrameBuffer) : State := { State.reset with pr := ⟨fb, 0, 0⟩ }
def onChunk (fb : FrameBuffer) (c : List Byte) : State :=
  { State.reset with pr := ⟨fb, 0, 0⟩, ops := { Operands.idle with chunk := c } }
def onCounters (processed errors : Nat) : State := { State.reset with pr := ⟨FrameBuffer.empty, processed, errors⟩ }

/-- The state after an operation or a step; unchanged where there is none. -/
def nextOf (o : Outcome) (s : State) : State :=
  match o with
  | .next t => t
  | _ => s
def after (i : Instr) (s : State) : State := nextOf (exec i s) s
theorem exec_after (i : Instr) (s : State) : exec i s = .next (after i s) := by
  obtain ⟨_, _, _, _, h⟩ := exec_cases i s
  simp [after, nextOf, h]
def reply (i : Instr) (s : State) : Option Response := (after i s).response
def ok (r : Result) : Option Response := some ⟨.ok, r⟩
def err (e : ErrorKind) : Option Response := some ⟨.error e, .nothing⟩
def no : Option Response := some ⟨.refused, .nothing⟩

/-! Ill-formed terms are refused (WellFormed). -/

theorem test_wf_unit_without_functions : (Word.cmd8 0x00).wellFormed = false ∧ (Word.cmd8 0x80).wellFormed = false := by decide
theorem test_wf_function_past_unit : (Word.cmd8 0x11).wellFormed = false ∧ (Word.cmd8 0x39).wellFormed = false ∧
    (Word.cmd8 0x75).wellFormed = false := by decide
theorem test_wf_type_byte_unlisted : (Word.frameType 0x55).wellFormed = false ∧ (Word.frameType 0x10).wellFormed = false := by
  decide
theorem test_wf_type_byte_is_no_command : (Word.cmd8 0x1E).wellFormed = false ∧ (Word.cmd8 0x07).wellFormed = false := by
  decide
theorem test_wf_min_check_without_size :
    ({ Config.descFixMin12 with fixedSize := none } : KindDesc).wellFormed = false := by decide
theorem test_wf_params_ok : Config.params.wellFormed = true := by decide +kernel
theorem test_wf_dataMax_small : ({ Config.params with dataMax := some 63 } : Params).wellFormed = false := by decide +kernel
theorem test_wf_qCap_small : ({ Config.params with qCap := some 129 } : Params).wellFormed = false := by decide +kernel
theorem test_wf_cntW_zero : ({ Config.params with cntW := 0 } : Params).wellFormed = false := by decide +kernel
theorem test_wf_valW_small : ({ Config.params with valW := 12 } : Params).wellFormed = false := by decide +kernel
theorem test_wf_type_code_twice :
    ({ Config.params with types := [(0x07, Config.descVariometer), (0x07, Config.descAttitude)] } : Params).wellFormed =
      false := by decide +kernel
theorem test_wf_ill_formed_entry :
    ({ Config.params with types := [(0xF3, { Config.descFixMin12 with fixedSize := none })] } : Params).wellFormed =
      false := by decide +kernel

/-! Decoding: each row's word, written bit by bit from 30_encoding.md R51 to R53 (unit, then function). -/

theorem test_decode_crc_ch : decode (.cmd8 0b0001_0000) = .ok .crc8 ∧ decode (.cmd8 0b0010_0000) = .ok .chPack ∧
    decode (.cmd8 0b0010_0001) = .ok .chUnpack ∧ decode (.cmd8 0b0010_0010) = .ok .chP2us ∧
    decode (.cmd8 0b0010_0011) = .ok .chUs2p := by decide
theorem test_decode_env : decode (.cmd8 0b0011_0000) = .ok .envNew ∧ decode (.cmd8 0b0011_0001) = .ok .envNewRaw ∧
    decode (.cmd8 0b0011_0010) = .ok .envAddr ∧ decode (.cmd8 0b0011_0011) = .ok .envLen ∧
    decode (.cmd8 0b0011_0100) = .ok .envType ∧ decode (.cmd8 0b0011_0101) = .ok .envData ∧
    decode (.cmd8 0b0011_0110) = .ok .envCsum ∧ decode (.cmd8 0b0011_0111) = .ok .envSize ∧
    decode (.cmd8 0b0011_1000) = .ok .envBuild := by decide
theorem test_decode_xenv : decode (.cmd8 0b0100_0000) = .ok .xenvNew ∧ decode (.cmd8 0b0100_0001) = .ok .xenvDest ∧
    decode (.cmd8 0b0100_0010) = .ok .xenvSrc ∧ decode (.cmd8 0b0100_0011) = .ok .xenvXtype ∧
    decode (.cmd8 0b0100_0100) = .ok .xenvData := by decide
theorem test_decode_fb_disp : decode (.cmd8 0b0101_0000) = .ok .fbAdd ∧ decode (.cmd8 0b0101_0001) = .ok .fbGet ∧
    decode (.cmd8 0b0101_0010) = .ok .fbResync ∧ decode (.cmd8 0b0101_0011) = .ok .fbFlush ∧
    decode (.cmd8 0b0110_0000) = .ok .dispGen := by decide
theorem test_decode_pr : decode (.cmd8 0b0111_0000) = .ok .prProcess ∧ decode (.cmd8 0b0111_0001) = .ok .prBuild ∧
    decode (.cmd8 0b0111_0010) = .ok .prFlush ∧ decode (.cmd8 0b0111_0011) = .ok .prRstat ∧
    decode (.cmd8 0b0111_0100) = .ok .prErate := by decide
theorem test_decode_type_bytes : decode (.frameType 0b0001_1110) = .ok .frameAttitude ∧
    decode (.frameType 0b0000_0111) = .ok .frameVariometer := by decide
theorem test_decode_rejects_by_name : decode (.cmd8 0x24) = .error (.unassignedCommand 0x24) ∧
    decode (.frameType 0x08) = .error (.unlistedTypeByte 0x08) := by decide
theorem test_decodeTableWord : decodeTableWord 8 0x38 = some .envBuild ∧ decodeTableWord 8 0x1E = some .frameAttitude ∧
    decodeTableWord 8 0x07 = some .frameVariometer ∧ decodeTableWord 8 0x90 = none ∧ decodeTableWord 16 0x38 = none := by
  decide

/-! The step. -/

theorem test_step_runs_placed_word :
    ((nextOf (step (State.reset.withFetchWord 8 0x22)) State.reset).response = ok (.int 881)) ∧
    ((nextOf (step (State.reset.withFetchWord 8 0x1E)) State.reset).response =
      ok (.kind (some Config.descAttitude))) := by decide +kernel
/-- U1: an unassigned command byte is refused. -/
theorem test_step_refuses_unassigned :
    nextOf (step { State.reset with requests := [⟨.cmd8 0x1E, Operands.idle⟩] }) State.reset =
      { State.reset with response := no } := by decide +kernel
theorem test_status_codes : [Status.ok, .error .corruptedFrame, .error .unknownAddress, .error .unknownFrameType,
    .error .invalidLength, .error .conversionOutOfRange, .error .invalidRange, .refused].map Status.code =
      [0, 1, 2, 3, 4, 5, 6, 255] := by decide

/-! Checksum Engine: V4, V5, V6. -/

theorem test_crc8_check_value :
    reply .crc8 (onCrc 0xD5 [0x31, 0x32, 0x33, 0x34, 0x35, 0x36, 0x37, 0x38, 0x39] 0 9) = ok (.byte 0xBC) ∧
    reply .crc8 (onCrc 0xBA [0x31, 0x32, 0x33, 0x34, 0x35, 0x36, 0x37, 0x38, 0x39] 0 9) = ok (.byte 0x20) ∧
    reply .crc8 (onCrc 0xD5 x2 2 5) = ok (.byte 0x23) ∧ reply .crc8 (onCrc 0xD5 x1 2 9) = ok (.byte 0xC4) := by
  decide +kernel
theorem test_crc8_ranges :
    reply .crc8 (onCrc 0xD5 x2 0 6) = ok (.byte 0xF6) ∧ reply .crc8 (onCrc 0xD5 x2 2 2) = err .invalidRange ∧
    reply .crc8 (onCrc 0xD5 x2 0 7) = err .invalidRange ∧ reply .crc8 (onCrc 0xD5 x2 (-1) 3) = err .invalidRange ∧
    reply .crc8 (onCrc 0xD5 x2 0 32768) = no := by decide +kernel

/-! Channel Codec: V7 to V10. -/

theorem test_chPack :
    reply .chPack (ports { Operands.idle with ch := [0, 1, 2, 3, 4, 5, 6, 7, 8, 9, 10, 11, 12, 13, 14, 15] }) =
      ok (.bytes [0x00, 0x08, 0x80, 0x00, 0x06, 0x40, 0x80, 0x02, 0x18, 0xE0, 0x00, 0x08, 0x48, 0x80, 0x02, 0x16, 0xC0,
        0x80, 0x06, 0x38, 0xE0, 0x01]) ∧
    reply .chPack (ports { Operands.idle with ch := List.replicate 16 (-1) }) = ok (.bytes (List.replicate 22 0xFF)) := by
  decide +kernel
theorem test_chPack_refuses_seventeen :
    reply .chPack (ports { Operands.idle with ch := List.replicate 17 0 }) = no := by decide +kernel
theorem test_chUnpack :
    reply .chUnpack (ports { Operands.idle with pk := [0x00, 0x01, 0x02, 0x03, 0x04, 0x05, 0x06, 0x07, 0x08, 0x09, 0x0A,
      0x0B, 0x0C, 0x0D, 0x0E, 0x0F, 0x10, 0x11, 0x12, 0x13, 0x14, 0x15] }) =
      ok (.ints [256, 64, 12, 642, 96, 14, 578, 80, 1035, 417, 1080, 7, 273, 1572, 1284, 168]) := by decide +kernel
theorem test_chUnpack_refuses_21 :
    reply .chUnpack (ports { Operands.idle with pk := List.replicate 21 0 }) = no := by decide +kernel
theorem test_chP2us :
    [0, 2, 172, 992, 993, 1811, 1984].map (fun v => reply .chP2us (ports { Operands.idle with v := v })) =
      [881, 882, 988, 1500, 1500, 2011, 2119].map (fun u => ok (.int u)) := by decide +kernel
theorem test_chP2us_out_of_range :
    [-1, 1985, -32768, 32767].map (fun v => reply .chP2us (ports { Operands.idle with v := v })) =
      [err .conversionOutOfRange, err .conversionOutOfRange, err .conversionOutOfRange, err .conversionOutOfRange] := by
  decide +kernel
theorem test_chUs2p :
    [881, 988, 1027, 1105, 1499, 1500, 1501, 2119].map (fun u => reply .chUs2p (ports { Operands.idle with us := u })) =
      [1, 172, 234, 360, 991, 992, 994, 1984].map (fun v => ok (.int v)) := by decide +kernel
theorem test_chUs2p_out_of_range :
    [0, 880, 2120, -1].map (fun u => reply .chUs2p (ports { Operands.idle with us := u })) =
      [err .conversionOutOfRange, err .conversionOutOfRange, err .conversionOutOfRange, err .conversionOutOfRange] := by
  decide +kernel

/-! Frame Envelope: V12, V13, V15. -/

theorem test_envNew :
    reply .envNew (onRaw x1) = ok .nothing ∧ reply .envNew (onRaw x2bad) = err .corruptedFrame ∧
    reply .envNew (onRaw [0xC8, 0x02, 0x07, 0x54]) = ok .nothing ∧
    reply .envNew (onRaw [0x00, 0x04, 0x07, 0x00, 0x00, 0x23]) = ok .nothing := by decide +kernel
theorem test_envNew_short :
    reply .envNew (onRaw [0xC8, 0x01, 0x07]) = err .invalidRange ∧ reply .envNew (onRaw []) = err .invalidRange ∧
    reply .envNew (onRaw x65) = no := by decide +kernel
theorem test_envNewRaw :
    reply .envNewRaw (onRaw [0xC8, 0x04, 0xF0, 0x00, 0x00, 0x00]) = ok .nothing ∧
    reply .envNewRaw (onRaw []) = ok .nothing := by decide +kernel
theorem test_envAddr :
    reply .envAddr (onRaw [0xEA, 0x04, 0x07, 0x00, 0x00, 0x23]) = ok (.byte 0xEA) ∧
    reply .envAddr (onRaw [0x00, 0x04, 0x07, 0x00, 0x00, 0x23]) = err .unknownAddress ∧
    reply .envAddr (onRaw []) = no := by decide +kernel
theorem test_envLen :
    reply .envLen (onRaw x2) = ok (.byte 0x04) ∧ reply .envLen (onRaw [0xC8]) = no := by decide +kernel
theorem test_envType :
    reply .envType (onRaw x2) = ok (.typed 0x07 Config.descVariometer) ∧
    reply .envType (onRaw [0xC8, 0x04, 0xF0, 0x00, 0x00, 0x00]) = ok (.typed 0xF0 Config.descFixUnhandled) ∧
    reply .envType (onRaw [0xC8, 0x04, 0x55, 0x00, 0x00, 0x00]) = err .unknownFrameType ∧
    reply .envType (onRaw [0xC8, 0x04]) = no := by decide +kernel
theorem test_envData :
    reply .envData (onRaw x2) = ok (.bytes [0x07, 0x00, 0x00, 0x23]) ∧
    reply .envData (onRaw [0xC8, 0x00]) = ok (.bytes []) ∧ reply .envData (onRaw [0xC8]) = no := by decide +kernel
theorem test_envCsum :
    reply .envCsum (onRaw x2bad) = ok (.byte 0x24) ∧ reply .envCsum (onRaw []) = no := by decide +kernel
theorem test_envSize :
    reply .envSize (onKind x2 (.desc Config.descVariometer)) = ok (.int 7) ∧
    reply .envSize (onKind x1 (.desc Config.descAttitude)) = ok (.int 10) ∧
    reply .envSize (onKind x2 .raw) = ok (.int 6) ∧
    reply .envSize (onKind xExt (.desc Config.descFixExt)) = ok (.int 9) := by decide +kernel
theorem test_envBuild :
    reply .envBuild (ports { Operands.idle with addr := 0xC8, type := 0x1E, payload := [0x00, 0x22, 0xFF, 0xA9, 0x3C, 0x10] }) =
      ok (.bytes x1) ∧
    reply .envBuild (ports { Operands.idle with addr := 0xC8, type := 0x07, payload := [] }) =
      ok (.bytes [0xC8, 0x02, 0x07, 0x54]) := by decide +kernel
theorem test_envBuild_limits :
    reply .envBuild (ports { Operands.idle with addr := 0xC8, type := 0xF3, payload := List.replicate 60 0x11 }) =
      ok (.bytes ([0xC8, 0x3E, 0xF3] ++ List.replicate 60 0x11 ++ [0x9A])) ∧
    reply .envBuild (ports { Operands.idle with addr := 0xC8, type := 0xF3, payload := List.replicate 61 0x11 }) =
      err .invalidLength := by decide +kernel

/-! Extended Envelope: V14. -/

theorem test_xenvNew :
    reply .xenvNew (onRaw xExt) = ok .nothing ∧
    reply .xenvNew (onRaw [0xC8, 0x04, 0xF1, 0xEA, 0xEE, 0x95]) = ok .nothing ∧
    reply .xenvNew (onRaw [0xC8, 0x03, 0xF1, 0xEA, 0x9A]) = err .invalidLength := by decide +kernel
theorem test_xenvNew_checks_in_order :
    reply .xenvNew (onRaw [0xC8, 0x03, 0xF1, 0xEA, 0x65]) = err .corruptedFrame ∧
    reply .xenvNew (onRaw [0xC8, 0x01, 0xF1]) = err .invalidRange := by decide +kernel
theorem test_xenvDest :
    reply .xenvDest (onRaw xExt) = ok (.byte 0xEA) ∧
    reply .xenvDest (onRaw [0xC8, 0x06, 0xF1, 0x99, 0xEE, 0x07, 0xAA, 0x3F]) = err .unknownAddress ∧
    reply .xenvDest (onRaw [0xC8, 0x01, 0xF1]) = no := by decide +kernel
theorem test_xenvSrc :
    reply .xenvSrc (onRaw xExt) = ok (.byte 0xEE) ∧ reply .xenvSrc (onRaw [0xC8, 0x02, 0xF1, 0x00]) = no := by decide +kernel
theorem test_xenvXtype :
    reply .xenvXtype (onRaw xExt) = ok (.byte 0x01) ∧
    reply .xenvXtype (onRaw [0xC8, 0x06, 0xF1, 0x99, 0xEE, 0x07, 0xAA, 0x3F]) = err .unknownFrameType ∧
    reply .xenvXtype (onRaw [0xC8, 0x03, 0xF1, 0xEA, 0x9A]) = no := by decide +kernel
theorem test_xenvData :
    reply .xenvData (onKind xExt (.desc Config.descFixExt)) = ok (.bytes [0xAA, 0xBB, 0x68]) ∧
    reply .xenvData (onKind xExt (.desc Config.descFixExt5)) = ok (.bytes [0x01, 0xAA, 0xBB, 0x68]) := by decide +kernel
theorem test_xenvData_edges :
    reply .xenvData (onKind [0xC8, 0x03, 0xF1, 0xEA, 0x9A] (.desc Config.descFixExt)) = no ∧
    reply .xenvData (onKind [0xC8, 0x03, 0xF1, 0xEA, 0x9A] (.desc Config.descFixExt5)) = ok (.bytes []) := by decide +kernel

/-! Frame Buffer: V16, V18, V19, V20. -/

theorem test_fbAdd_derives :
    [0x00, 0x01, 0x02, 0x3E, 0x3F, 0x40, 0x41, 0xFF].map
        (fun d => (after .fbAdd (onChunk FrameBuffer.empty [0xC8, d, 0x00])).pr.fb) =
      [⟨[0xC8, 0x00, 0x00], 0, false⟩, ⟨[0xC8, 0x01, 0x00], 3, true⟩, ⟨[0xC8, 0x02, 0x00], 4, false⟩,
       ⟨[0xC8, 0x3E, 0x00], 64, false⟩, ⟨[0xC8, 0x3F, 0x00], 65, false⟩, ⟨[0xC8, 0x40, 0x00], 66, false⟩,
       ⟨[0xC8, 0x41, 0x00], 0, false⟩, ⟨[0xC8, 0xFF, 0x00], 0, false⟩] := by decide +kernel
theorem test_fbAdd_keeps_hypothesis :
    (after .fbAdd (onChunk ⟨[0xC8, 0x04, 0x07], 6, false⟩ [0x00, 0x00, 0x23, 0xC8, 0x3E])).pr.fb =
      ⟨[0xC8, 0x04, 0x07, 0x00, 0x00, 0x23, 0xC8, 0x3E], 6, true⟩ := by decide +kernel
theorem test_fbGet_pops :
    reply .fbGet (onBuffer ⟨x2 ++ [0xC8, 0x08, 0x1E], 6, true⟩) = ok (.bytes x2) ∧
    (after .fbGet (onBuffer ⟨x2 ++ [0xC8, 0x08, 0x1E], 6, true⟩)).pr.fb = ⟨[0xC8, 0x08, 0x1E], 10, false⟩ := by decide +kernel
theorem test_fbGet_resynchronizes :
    reply .fbGet (onBuffer ⟨[0x11, 0x22] ++ x2, 36, false⟩) = ok (.bytes x2) ∧
    reply .fbGet (onBuffer ⟨[0xC8, 0x04, 0x07, 0x00], 6, false⟩) = ok .absent ∧
    (after .fbGet (onBuffer ⟨[0xC8, 0x04, 0x07, 0x00], 6, false⟩)).pr.fb = FrameBuffer.empty := by decide +kernel
theorem test_fbResync_found :
    reply .fbResync (onBuffer ⟨[0x11, 0x22] ++ x2, 36, false⟩) = ok (.found true) ∧
    (after .fbResync (onBuffer ⟨[0x11, 0x22] ++ x2, 36, false⟩)).pr.fb = ⟨x2, 6, true⟩ ∧
    (after .fbResync (onBuffer ⟨[0xC8, 0xC8, 0x04], 0, false⟩)).pr.fb = ⟨[0xC8, 0x04], 0, false⟩ := by decide +kernel
theorem test_fbResync_drops_head_blindly :
    reply .fbResync (onBuffer ⟨x2, 6, true⟩) = ok (.found false) ∧
    (after .fbResync (onBuffer ⟨x2, 6, true⟩)).pr.fb = FrameBuffer.empty := by decide +kernel
theorem test_fbFlush : (after .fbFlush (onBuffer ⟨x2, 6, true⟩)).pr.fb = FrameBuffer.empty := by decide +kernel
theorem test_hard_cap :
    (after .fbAdd (onChunk ⟨List.replicate 129 0, 0, false⟩ [0x00])).pr.fb.avail = true ∧
    (after .fbAdd (onChunk FrameBuffer.empty (List.replicate 129 0))).pr.fb.avail = false := by decide +kernel

/-! Frame Dispatcher: V21. -/

theorem test_dispGen :
    reply .dispGen (onRaw x1) = ok (.frame ⟨.named .attitude, x1⟩) ∧
    reply .dispGen (onRaw xExt) = ok (.frame ⟨.named .fixExt, xExt⟩) ∧
    reply .dispGen (onRaw [0xC8, 0x01, 0xF0]) = ok (.frame ⟨.raw, [0xC8, 0x01, 0xF0]⟩) ∧
    reply .dispGen (onRaw [0xC8, 0x0A, 0xF3, 0x01, 0x02, 0x03, 0x04, 0x05, 0x06, 0x07, 0x08, 0x29]) =
      ok (.frame ⟨.named .fixMin12, [0xC8, 0x0A, 0xF3, 0x01, 0x02, 0x03, 0x04, 0x05, 0x06, 0x07, 0x08, 0x29]⟩) := by
  decide +kernel
theorem test_dispGen_errors :
    reply .dispGen (onRaw [0xC8, 0x04]) = err .invalidLength ∧ reply .dispGen (onRaw x2bad) = err .corruptedFrame ∧
    reply .dispGen (onRaw [0xC8, 0x01, 0x07]) = err .invalidRange ∧
    reply .dispGen (onRaw [0xC8, 0x01, 0x55]) = err .unknownFrameType ∧
    reply .dispGen (onRaw [0xC8, 0x09, 0xF3, 0x01, 0x02, 0x03, 0x04, 0x05, 0x06, 0x07, 0x00]) = err .invalidLength ∧
    reply .dispGen (onRaw [0xC8, 0x09, 0xF3, 0x01, 0x02, 0x03, 0x04, 0x05, 0x06, 0x07, 0x01]) = err .corruptedFrame := by
  decide +kernel
theorem test_frameAttitude : reply .frameAttitude State.reset = ok (.kind (some Config.descAttitude)) := by decide +kernel
theorem test_frameVariometer : reply .frameVariometer State.reset = ok (.kind (some Config.descVariometer)) := by
  decide +kernel

/-! Frame Processor: V22 to V24, V26. -/

theorem test_prProcess_two_frames :
    (after .prProcess (onChunk FrameBuffer.empty (x1 ++ x2))).pr = ⟨FrameBuffer.empty, 2, 0⟩ ∧
    (after .prProcess (onChunk FrameBuffer.empty (x1 ++ x2))).sink = [⟨.named .attitude, x1⟩, ⟨.named .variometer, x2⟩] := by
  decide +kernel
theorem test_prProcess_corrupted_then_valid :
    (after .prProcess (onChunk FrameBuffer.empty (x2bad ++ x2))).pr = ⟨FrameBuffer.empty, 0, 1⟩ ∧
    (after .prProcess (onChunk FrameBuffer.empty (x2bad ++ [0x00] ++ x2))).pr = ⟨FrameBuffer.empty, 1, 1⟩ := by
  decide +kernel
theorem test_prBuild_swallows_invalid_range :
    reply .prBuild (onBuffer ⟨[0xC8, 0x01, 0x07] ++ x2, 3, true⟩) = ok .absent ∧
    (after .prBuild (onBuffer ⟨[0xC8, 0x01, 0x07] ++ x2, 3, true⟩)).pr = ⟨⟨x2, 6, true⟩, 0, 0⟩ := by decide +kernel
theorem test_prBuild_counts :
    reply .prBuild (onBuffer ⟨x2, 6, true⟩) = ok (.frame ⟨.named .variometer, x2⟩) ∧
    (after .prBuild (onBuffer ⟨x2bad ++ x2, 6, true⟩)).pr = ⟨FrameBuffer.empty, 0, 1⟩ := by decide +kernel
theorem test_prFlush :
    (after .prFlush { State.reset with pr := ⟨⟨[0xC8, 0x04, 0x07], 6, false⟩, 3, 1⟩ }).pr = ⟨FrameBuffer.empty, 3, 1⟩ := by
  decide +kernel
theorem test_prRstat :
    (after .prRstat { State.reset with pr := ⟨⟨[0xC8, 0x04, 0x07], 6, false⟩, 3, 1⟩ }).pr =
      ⟨⟨[0xC8, 0x04, 0x07], 6, false⟩, 0, 0⟩ := by decide +kernel
theorem test_prErate :
    [(0, 5), (3, 1), (3, 2), (2, 3), (200, 1), (1, 255)].map (fun c => reply .prErate (onCounters c.1 c.2)) =
      [0, 33, 66, 150, 0, 25500].map (fun r => ok (.int r)) := by decide +kernel

/-! Witnesses: concrete states and operands that meet the hypotheses of a statement, clause by clause. -/

/-- A state with one `PR_PROCESS` request waiting, and with the parameters of `p`. -/
def withRequest (r : Request) : State := { State.reset with requests := [r] }
def withParams (p : Params) (s : State) : State := { s with params := p }
def smallPorts : Params := { Config.params with dataMax := some 64, qCap := some 130 }
def rawPolicy : Params := { Config.params with unknownType := .rawFallback }
def capped (n : Nat) : Params := { Config.params with qCap := some n }
def halfUp : Params := { Config.params with tieRule := .halfUp }

/-! The step. -/

theorem witness_StepRunsDecodedRequest :
    (withRequest (processRequest x2)).requests = processRequest x2 :: [] ∧
    decode (processRequest x2).word = .ok .prProcess := by decide +kernel
theorem witness_UnassignedCommandRefused :
    (withRequest ⟨.cmd8 0x11, Operands.idle⟩).requests = ⟨.cmd8 0x11, Operands.idle⟩ :: [] ∧
    (Word.cmd8 0x11).wellFormed = false := by decide +kernel
theorem witness_IdleStepWaits : State.reset.requests = [] := rfl

/-! Reset, invariants, frames. -/

theorem witness_ResetIsFlushThenResetStatistics :
    exec .prFlush (onBuffer ⟨x2, 6, true⟩) = .next (after .prFlush (onBuffer ⟨x2, 6, true⟩)) ∧
    exec .prRstat (after .prFlush (onBuffer ⟨x2, 6, true⟩)) =
      .next (after .prRstat (after .prFlush (onBuffer ⟨x2, 6, true⟩))) := ⟨rfl, rfl⟩
theorem witness_FirstOperationsAfterReset :
    Operands.idle.chunk = [] ∧
    (onChunk FrameBuffer.empty [0x00, 0x00, 0x23, 0xC8, 0x04, 0x07, 0x00, 0x00, 0x23]).ops.chunk =
      [0x00, 0x00, 0x23, 0xC8, 0x04, 0x07, 0x00, 0x00, 0x23] ∧
    onChunk FrameBuffer.empty [0x00, 0x00, 0x23, 0xC8, 0x04, 0x07, 0x00, 0x00, 0x23] =
      { State.resetWith Config.params with
        ops := (onChunk FrameBuffer.empty [0x00, 0x00, 0x23, 0xC8, 0x04, 0x07, 0x00, 0x00, 0x23]).ops } := by
  decide +kernel
/-- The queue's room at its boundary: exactly nine bytes; and no bound at all. -/
theorem witness_FirstOperationsAfterReset_room :
    (∀ cap, (capped 9).qCap = some cap → 9 ≤ cap) ∧ (∀ cap, Config.params.qCap = some cap → 9 ≤ cap) :=
  ⟨fun _ h => by cases h; decide, fun _ h => by cases h⟩
theorem witness_invariant_frame : BufferInvariant ⟨x2, 6, true⟩ := (bufferInvariant_iff _).2 (by decide +kernel)
theorem witness_invariant_cap : BufferInvariant ⟨List.replicate 130 0, 0, true⟩ :=
  (bufferInvariant_iff _).2 (by decide +kernel)
theorem witness_BufferInvariantBetweenOperations :
    BufferInvariant (onChunk ⟨x2, 6, true⟩ x1).pr.fb ∧
    (after .prProcess (onChunk ⟨x2, 6, true⟩ x1)).response = ok .nothing ∧
    (after .prProcess (onChunk ⟨x2, 6, true⟩ x1)).pr.processed = 2 :=
  ⟨witness_invariant_frame, by decide +kernel, by decide +kernel⟩
theorem witness_safe : Safe (withRequest (processRequest x2)) :=
  ⟨bufferInvariant_empty, by decide +kernel, by decide +kernel, fun cap h => by cases h⟩
theorem witness_StepKeepsSafe :
    Safe (withRequest (processRequest x2)) ∧
    (nextOf (step (withRequest (processRequest x2))) State.reset).pr.processed = 1 :=
  ⟨witness_safe, by decide +kernel⟩
theorem witness_StepKeepsParameters :
    step (withParams smallPorts (withRequest ⟨.cmd8 0x74, Operands.idle⟩)) =
      .next { withParams smallPorts State.reset with response := ok (.int 0) } := rfl
theorem witness_pure : pureInstr .crc8 = true ∧ pureInstr .frameAttitude = true ∧
    (onCrc 0xD5 x2 2 5).ops = { onCrc 0xD5 x2 2 5 with pr := ⟨FrameBuffer.empty, 3, 1⟩ }.ops ∧
    (onCrc 0xD5 x2 2 5).params = { onCrc 0xD5 x2 2 5 with pr := ⟨FrameBuffer.empty, 3, 1⟩ }.params ∧
    reply .crc8 { onCrc 0xD5 x2 2 5 with pr := ⟨FrameBuffer.empty, 3, 1⟩ } = ok (.byte 0x23) := by decide +kernel
theorem witness_BufferOperationsFrame : bufferInstr .fbGet = true ∧
    exec .fbGet (onBuffer ⟨x2, 6, true⟩) = .next (after .fbGet (onBuffer ⟨x2, 6, true⟩)) := ⟨rfl, rfl⟩
theorem witness_SinkAndCounters :
    exec .fbAdd (onChunk FrameBuffer.empty x2) = .next (after .fbAdd (onChunk FrameBuffer.empty x2)) ∧
    Instr.fbAdd ≠ .prProcess ∧ Instr.fbAdd ≠ .prBuild ∧ Instr.fbAdd ≠ .prRstat := ⟨rfl, by decide, by decide, by decide⟩
theorem witness_ErrorKindsPerOperation :
    (∀ x ∈ (onRaw x2bad).params.types, x.2.extraCheck = .ok) ∧ reply .envNew (onRaw x2bad) = err .corruptedFrame := by
  decide +kernel
theorem witness_OperandPortsRefuse :
    (withParams smallPorts (onCrc 0xD5 x65 2 5)).params.dataMax = some 64 ∧ 64 < x65.length ∧
    ¬ isSigned 16 32768 ∧ ¬ isSigned 16 (-32769) ∧
    (withParams smallPorts (ports { Operands.idle with payload := x65 })).ops.payload = x65 ∧
    (∃ c ∈ (32768 : Int) :: List.replicate 15 0, ¬ isSigned 16 c) ∧
    (onKind xExt (.desc Config.descAttitude)).ops.kind = .desc Config.descAttitude ∧ Config.descAttitude.cls = .base ∧
    (onKind xExt .raw).ops.kind = .raw := by
  unfold isSigned; decide +kernel

/-! Checksum Engine. -/

theorem witness_Crc8Result_range :
    isSigned 16 0 ∧ isSigned 16 6 ∧ (0 : Int) ≤ 0 ∧ (0 : Int) < 6 ∧ (6 : Int) ≤ x2.length ∧
    (∀ m, smallPorts.dataMax = some m → x2.length ≤ m) := by
  refine ⟨by unfold isSigned; decide +kernel, by unfold isSigned; decide +kernel, by decide, by decide, by decide, ?_⟩
  intro m h; cases h; decide
theorem witness_Crc8Result_empty_range : isSigned 16 2 ∧ (2 : Int) ≤ 2 := by unfold isSigned; decide +kernel
theorem witness_Crc8Result_outside :
    isSigned 16 (-1) ∧ isSigned 16 7 ∧ (-1 : Int) < 0 ∧ (x2.length : Int) < 7 := by unfold isSigned; decide +kernel
theorem witness_CrcAlgebraicLaws :
    [0x12, 0x34, (0x56 : Byte)].length = [0xAB, 0xCD, (0xEF : Byte)].length ∧ (0xD5 : Byte).getLsbD 0 = true ∧
    x2[2]? = some 0x07 ∧ (0x06 : Byte) ≠ 0x07 := by decide

/-! Channel Codec. -/

theorem witness_ChPackResult :
    (List.replicate 16 (-32768 : Int)).length = 16 ∧ (∀ c ∈ List.replicate 16 (-32768 : Int), isSigned 16 c) ∧
    (List.replicate 15 (0 : Int)).length ≠ 16 := by
  refine ⟨by decide, ?_, by decide⟩
  intro c h
  rw [List.eq_of_mem_replicate h]; unfold isSigned; decide +kernel
theorem witness_ChUnpackResult :
    (List.replicate 22 (0xFF : Byte)).length = 22 ∧ (List.replicate 23 (0xFF : Byte)).length ≠ 22 := by decide
theorem witness_PackUnpackInverse :
    (List.replicate 16 (2047 : Int)).length = 16 ∧ (∀ c ∈ List.replicate 16 (2047 : Int), 0 ≤ c ∧ c ≤ 2047) ∧
    (List.replicate 22 (0xFF : Byte)).length = 22 := by decide +kernel
theorem witness_ProtocolToMicroseconds :
    isSigned 16 992 ∧ (isSigned 16 (-1) ∧ (-1 : Int) < 0) ∧ (isSigned 16 1985 ∧ (1984 : Int) < 1985) ∧
    (isSigned 16 0 ∧ (0 : Int) ≤ 0) ∧ (isSigned 16 1984 ∧ (1984 : Int) ≤ 1984) := by unfold isSigned; decide +kernel
theorem witness_MicrosecondsToProtocol_accepts :
    isSigned 16 1500 ∧ isSigned 16 881 ∧ isSigned 16 2119 ∧ (881 : Int) ≠ 1500 ∧ Config.params.tieRule = .even ∧
    isRounded .even (125 * 881 - 110084) 1 ∧ isRounded .even (125 * 2119 - 110084) 1984 := by
  simp only [isSigned, isRounded]; decide +kernel
theorem witness_MicrosecondsToProtocol_rejects :
    isSigned 16 880 ∧ (880 : Int) < 881 ∧ isRounded .even (125 * 880 - 110084) (-1) ∧ isSigned 16 2120 ∧
    (2119 : Int) < 2120 ∧ halfUp.tieRule = .halfUp ∧ isRounded .halfUp (125 * 2119 - 110084) 1985 := by
  simp only [isSigned, isRounded]; decide +kernel
theorem witness_ConversionRoundTrips :
    (0 : Int) ≤ 1984 ∧ p2us 1984 = .ok 2119 ∧ us2p .even 2119 = .ok 1984 ∧ us2p .even 881 = .ok 1 ∧ p2us 1 = .ok 881 := by
  decide +kernel
theorem witness_ReverseConversionTies : (1500 : Int) % 78 ≠ 13 ∧ (2119 : Int) % 78 = 13 := by decide

/-! Envelopes. -/

theorem witness_checksum_good : checksumGood x2 ∧ checksumGood [0xC8, 0x02, 0x07, 0x54] ∧ checksumGood xExt ∧
    checksumGood [0xC8, 0x03, 0xF1, 0xEA, 0x9A] := by unfold checksumGood; decide +kernel
theorem witness_checksum_bad : ¬ checksumGood x2bad ∧ ¬ checksumGood [0xC8, 0x02, 0x07, 0x55] := by
  unfold checksumGood; decide +kernel
theorem witness_EnvelopeConstruction :
    (onRaw [0xC8, 0x01, 0x07]).ops.raw.length ≤ 3 ∧ 4 ≤ (onRaw [0xC8, 0x02, 0x07, 0x54]).ops.raw.length ∧
    checksumGood (onRaw [0xC8, 0x02, 0x07, 0x54]).ops.raw ∧ ¬ checksumGood (onRaw [0xC8, 0x02, 0x07, 0x55]).ops.raw ∧
    (onRaw x64).ops.raw.length ≤ 64 := by unfold checksumGood; decide +kernel
theorem witness_BaseAccessors_present :
    (onRaw x2).ops.raw.length ≤ 64 ∧ (onRaw x2).ops.raw[0]? = some 0xC8 ∧ (0xC8 : Byte) ∈ (onRaw x2).params.addresses ∧
    (onRaw x2).ops.raw[1]? = some 0x04 ∧ (onRaw x2).ops.raw[2]? = some 0x07 ∧
    lookupType (onRaw x2).params 0x07 = some Config.descVariometer ∧ (onRaw x2).ops.raw.getLast? = some 0x23 := by
  decide +kernel
theorem witness_BaseAccessors_missing :
    (onRaw []).ops.raw.length < 1 ∧ (onRaw [0xC8]).ops.raw.length < 2 ∧ (onRaw [0xC8, 0x04]).ops.raw.length < 3 ∧
    (onRaw [0x00]).ops.raw[0]? = some 0x00 ∧ (0x00 : Byte) ∉ (onRaw [0x00]).params.addresses ∧
    lookupType (onRaw [0xC8, 0x01, 0x55]).params 0x55 = none := by decide +kernel
theorem witness_FrameSizeOfKind :
    (onKind x2 .raw).ops.kind = .raw ∧ (onKind x2 (.desc Config.descVariometer)).ops.kind = .desc Config.descVariometer ∧
    Config.descVariometer.fixedSize = some 7 ∧ Config.descFixExt.fixedSize = none := by decide +kernel
theorem witness_ExtendedConstruction :
    (onRaw [0xC8, 0x01, 0xF1]).ops.raw.length ≤ 3 ∧
    (4 ≤ (onRaw [0xC8, 0x02, 0x07, 0x55]).ops.raw.length ∧ ¬ checksumGood (onRaw [0xC8, 0x02, 0x07, 0x55]).ops.raw) ∧
    (4 ≤ (onRaw [0xC8, 0x03, 0xF1, 0xEA, 0x9A]).ops.raw.length ∧ checksumGood (onRaw [0xC8, 0x03, 0xF1, 0xEA, 0x9A]).ops.raw ∧
      (onRaw [0xC8, 0x03, 0xF1, 0xEA, 0x9A]).ops.raw.length < 6) ∧
    (6 ≤ (onRaw x2).ops.raw.length ∧ checksumGood (onRaw x2).ops.raw) := by unfold checksumGood; decide +kernel
theorem witness_ExtendedAccessors :
    (onRaw [0xC8, 0x01, 0xF1]).ops.raw.length < 4 ∧ (onRaw [0xC8, 0x02, 0xF1, 0x00]).ops.raw.length < 5 ∧
    (onRaw [0xC8, 0x03, 0xF1, 0xEA, 0x9A]).ops.raw.length < 6 ∧
    xExt[3]? = some 0xEA ∧ (0xEA : Byte) ∈ (onRaw xExt).params.addresses ∧
    xExt[4]? = some 0xEE ∧ (0x99 : Byte) ∉ (onRaw xExt).params.addresses ∧
    xExt[5]? = some 0x01 ∧ (0x01 : Byte) ∈ (onRaw xExt).params.xtypes ∧ (0x07 : Byte) ∉ (onRaw xExt).params.xtypes := by
  decide +kernel
theorem witness_ExtendedPayload :
    (onKind xExt (.desc Config.descFixExt)).ops.kind = .desc Config.descFixExt ∧ Config.descFixExt.cls = .extended .six ∧
    Config.descFixExt5.cls = .extended .five ∧ 6 ≤ (onRaw x2).ops.raw.length ∧
    (onRaw [0xC8, 0x03, 0xF1, 0xEA, 0x9A]).ops.raw.length < 6 ∧ 5 ≤ (onRaw [0xC8, 0x03, 0xF1, 0xEA, 0x9A]).ops.raw.length ∧
    (onRaw [0xC8, 0x02, 0xF1, 0x00]).ops.raw.length < 5 := by decide +kernel
theorem witness_LongImagesRefused : 64 < (onRaw x65).ops.raw.length ∧ Instr.envSize ∈ ([.envSize, .dispGen] : List Instr) := by
  decide +kernel
theorem witness_OutboundLayout :
    (List.replicate 60 (0x11 : Byte)).length ≤ 60 ∧ 60 < (List.replicate 61 (0x11 : Byte)).length ∧
    Config.params.dataMax = none := by decide +kernel
theorem witness_BuiltFramesAreValid :
    [0x00, (0x00 : Byte)].length ≤ 60 ∧ BufferInvariant ⟨x2, 6, true⟩ ∧
    ((FrameBuffer.mk x2 6 true).get 0xC8).1 = some x2 ∧ envNew x2 = .ok () ∧ x2[2]? = some 0x07 ∧ x2[0]? = some 0xC8 ∧
    (0x06 : Byte) ≠ 0x07 :=
  ⟨by decide, witness_invariant_frame, by decide +kernel, by decide +kernel, by decide, by decide, by decide⟩

/-! Frame Buffer. -/

theorem witness_AddAppendsThenDerives :
    (onChunk FrameBuffer.empty []).ops.chunk = [] ∧
    ((onChunk ⟨[0xC8, 0x04, 0x07], 6, false⟩ [0x00]).ops.chunk ≠ [] ∧
      (onChunk ⟨[0xC8, 0x04, 0x07], 6, false⟩ [0x00]).pr.fb.size ≠ 0 ∧
      (onChunk ⟨[0xC8, 0x04, 0x07], 6, false⟩ [0x00]).params.qCap = none) ∧
    (onChunk FrameBuffer.empty [0xC8]).pr.fb.size = 0 ∧
    ((withParams smallPorts (onChunk ⟨List.replicate 130 0, 0, true⟩ [0x00])).params.qCap = some 130 ∧
      130 < (onChunk ⟨List.replicate 130 0, 0, true⟩ [0x00]).pr.fb.q.length + 1) := by decide +kernel
theorem witness_ResyncStopsAtFirstMarkerBehindHead :
    (0xC8 : Byte) ∉ x2.tail ∧ ([0x11, 0x22] ++ x2).tail = [0x22] ++ 0xC8 :: x2.tail ∧ (0xC8 : Byte) ∉ [(0x22 : Byte)] := by
  decide
theorem witness_GetPopsTheHypothesis :
    1 ≤ (onBuffer ⟨x2, 6, true⟩).pr.fb.size ∧ (onBuffer ⟨x2, 6, true⟩).pr.fb.size ≤ 64 ∧
    (onBuffer ⟨x2, 6, true⟩).pr.fb.size ≤ (onBuffer ⟨x2, 6, true⟩).pr.fb.q.length := by decide +kernel
theorem witness_GetRetriesAfterResync :
    ((FrameBuffer.mk ([0x11, 0x22] ++ x2) 36 false).q.length < 36 ∧
      ((FrameBuffer.mk ([0x11, 0x22] ++ x2) 36 false).resync 0xC8).1 = true) ∧
    (64 < (FrameBuffer.mk x65 65 true).size ∧ ((FrameBuffer.mk x65 65 true).resync 0xC8).1 = false) ∧
    (FrameBuffer.mk [0xC8, 0x04] 0 false).size = 0 := by decide +kernel
theorem witness_GetSkipsToExtractableMarker :
    (FrameBuffer.mk ([0x11, 0x22] ++ x2) 36 false).q.length < 36 ∧
    firstExtractable 0xC8 ([0x11, 0x22] ++ x2).tail = some x2 ∧
    firstExtractable 0xC8 [0x04, 0x07, 0x00] = none ∧ [0xC8, (0x04 : Byte), 0x07, 0x00].tail.length < 6 := by decide +kernel
theorem witness_FlushClearsTheBufferOnly :
    exec .fbFlush (onBuffer ⟨x2, 6, true⟩) = .next (after .fbFlush (onBuffer ⟨x2, 6, true⟩)) ∧
    exec .prFlush (onBuffer ⟨x2, 6, true⟩) = .next (after .prFlush (onBuffer ⟨x2, 6, true⟩)) := ⟨rfl, rfl⟩
theorem witness_BufferStateTransitions :
    BufferInvariant ⟨x2, 6, true⟩ ∧ (FrameBuffer.mk x2 6 true).bufferState = .frameReady ∧
    (FrameBuffer.mk x2 6 true).add Config.params [0xC8] = some ⟨x2 ++ [0xC8], 6, true⟩ ∧
    (FrameBuffer.empty.get 0xC8).1 = none ∧ ((FrameBuffer.mk x2 6 true).resync 0xC8).1 = false ∧
    ((FrameBuffer.mk (x2 ++ x2) 6 true).resync 0xC8).1 = true :=
  ⟨witness_invariant_frame, by decide +kernel, by decide +kernel, by decide +kernel, by decide +kernel, by decide +kernel⟩
theorem witness_BytesLeaveInArrivalOrder :
    exec .prBuild (onBuffer ⟨x2, 6, true⟩) = .next (after .prBuild (onBuffer ⟨x2, 6, true⟩)) ∧
    exec .fbResync (onBuffer ⟨x2, 6, true⟩) = .next (after .fbResync (onBuffer ⟨x2, 6, true⟩)) ∧
    exec .prProcess (onChunk FrameBuffer.empty x2) = .next (after .prProcess (onChunk FrameBuffer.empty x2)) :=
  ⟨exec_after _ _, exec_after _ _, exec_after _ _⟩
theorem witness_isFrame : IsFrame x1 ∧ IsFrame x2 ∧ IsFrame [0xC8, 0x01, 0x07] :=
  ⟨⟨by decide, by decide, 0x08, by decide, by decide⟩, ⟨by decide, by decide, 0x04, by decide, by decide⟩,
    ⟨by decide, by decide, 0x01, by decide, by decide⟩⟩
theorem witness_ChunkingIndependence :
    (∀ f ∈ [x1, x2], IsFrame f) ∧ [x1.take 4, x1.drop 4 ++ x2.take 2, x2.drop 2].flatten = [x1, x2].flatten ∧
    Config.params.qCap = none := by
  refine ⟨?_, by decide, rfl⟩
  intro f h
  simp only [List.mem_cons, List.not_mem_nil, or_false] at h
  rcases h with rfl | rfl
  · exact witness_isFrame.1
  · exact witness_isFrame.2.1

/-! Frame Dispatcher. -/

theorem witness_DispatchDecisionTable_unknown :
    (onRaw [0xC8, 0x04]).ops.raw.length < 3 ∧ (onRaw [0xC8, 0x01, 0x55]).ops.raw[2]? = some 0x55 ∧
    lookupType Config.params 0x55 = none ∧ Config.params.unknownType = .error ∧ lookupType rawPolicy 0x55 = none ∧
    rawPolicy.unknownType = .rawFallback ∧ lookupType Config.params 0xF0 = some Config.descFixUnhandled ∧
    Config.descFixUnhandled.handled = false := by decide +kernel
theorem witness_DispatchDecisionTable_handled :
    (lookupType Config.params 0x07 = some Config.descVariometer ∧ Config.descVariometer.handled = true ∧
      (onRaw [0xC8, 0x01, 0x07]).ops.raw.length = 3) ∧
    (4 ≤ (onRaw x2bad).ops.raw.length ∧ ¬ checksumGood (onRaw x2bad).ops.raw) ∧
    (checksumGood (onRaw [0xC8, 0x03, 0xF1, 0xEA, 0x9A]).ops.raw ∧
      (onRaw [0xC8, 0x03, 0xF1, 0xEA, 0x9A]).ops.raw.length < 6 ∧
      lookupType Config.params 0xF1 = some Config.descFixExt ∧ Config.descFixExt.cls = .extended .six) := by
  unfold checksumGood; decide +kernel
theorem witness_DispatchDecisionTable_sizes :
    (checksumGood [0xC8, 0x09, 0xF3, 0x01, 0x02, 0x03, 0x04, 0x05, 0x06, 0x07, 0x00] ∧
      Config.descFixMin12.checkMinLen = true ∧ Config.descFixMin12.fixedSize = some 12) ∧
    (checksumGood [0xC8, 0x0A, 0xF3, 0x01, 0x02, 0x03, 0x04, 0x05, 0x06, 0x07, 0x08, 0x29] ∧
      runExtraCheck Config.descFixMin12.extraCheck [0xC8, 0x0A, 0xF3, 0x01, 0x02, 0x03, 0x04, 0x05, 0x06, 0x07, 0x08, 0x29] =
        none) ∧
    Config.descVariometer.checkMinLen = false := by unfold checksumGood; decide +kernel
theorem witness_AttestedTypeBytes :
    (lookupType Config.params 0x1E = some Config.descAttitude ∧ Config.descAttitude.handled = true) ∧
    lookupType ({ Config.params with types := [] }) 0x1E = none ∧
    (lookupType ({ Config.params with types := [(0x07, Config.descFixUnhandled)] }) 0x07 = some Config.descFixUnhandled ∧
      Config.descFixUnhandled.handled = false) ∧
    lookupType ({ rawPolicy with types := [] }) 0x07 = none ∧ Config.params.types = Config.regEx := by decide +kernel
theorem witness_SourceExampleFrames : Config.params.types = Config.regEx ∧
    x1 = [0xC8, 0x08, 0x1E, 0x00, 0x22, 0xFF, 0xA9, 0x3C, 0x10, 0xC4] ∧ x2 = [0xC8, 0x04, 0x07, 0x00, 0x00, 0x23] :=
  ⟨rfl, rfl, rfl⟩

/-! Frame Processor. -/

theorem witness_BuildOutcomes :
    FrameBuffer.empty.get 0xC8 = (none, FrameBuffer.empty) ∧
    (FrameBuffer.mk x2 6 true).get 0xC8 = (some x2, FrameBuffer.empty) ∧
    dispGen Config.params x2 = .ok ⟨.named .variometer, x2⟩ ∧ 0 < 2 ^ Config.params.cntW - 1 ∧
    2 ^ Config.params.cntW - 1 ≤ (onCounters 4294967295 0).pr.processed ∧
    dispGen Config.params [0xC8, 0x01, 0x07] = .error .invalidRange := by decide +kernel
theorem witness_RecoverySequence :
    (FrameBuffer.mk x2bad 6 true).get 0xC8 = (some x2bad, FrameBuffer.empty) ∧
    dispGen Config.params x2bad = .error .corruptedFrame ∧ (Status.error .corruptedFrame).code.toNat = 1 ∧
    (Status.error .invalidLength).code.toNat = 4 ∧ 0 < 2 ^ Config.params.cntW - 1 ∧
    2 ^ Config.params.cntW - 1 ≤ (onCounters 0 4294967295).pr.errors := by decide +kernel
theorem witness_ProcessDrainsWhileAvailable :
    (FrameBuffer.mk (List.replicate 130 0) 0 true).add smallPorts [0x00] = none ∧
    FrameBuffer.empty.add Config.params x2 = some ⟨x2, 6, true⟩ ∧
    Processor.drain Config.params ⟨⟨x2, 6, true⟩, 0, 0⟩ = some ([⟨.named .variometer, x2⟩], ⟨FrameBuffer.empty, 1, 0⟩) ∧
    Processor.drain Config.params ⟨⟨x2, 6, true⟩, 4294967295, 0⟩ = none ∧
    Processor.build Config.params ⟨⟨x2, 6, true⟩, 4294967295, 0⟩ = none ∧
    Processor.build Config.params ⟨⟨x2, 6, true⟩, 0, 0⟩ =
      some (some ⟨.named .variometer, x2⟩, ⟨FrameBuffer.empty, 1, 0⟩) := by decide +kernel
theorem witness_ProcessCompletes :
    (onChunk FrameBuffer.empty x2).params.qCap = none ∧
    (onChunk FrameBuffer.empty x2).pr.processed + (onChunk FrameBuffer.empty x2).pr.fb.q.length + x2.length ≤
      2 ^ Config.params.cntW - 1 ∧ (onChunk FrameBuffer.empty x2).pr.errors = 0 := by decide +kernel
theorem witness_DrainTerminates :
    BufferInvariant (Processor.mk ⟨x2, 6, true⟩ 0 0).fb ∧
    Processor.build Config.params ⟨⟨x2, 6, true⟩, 0, 0⟩ =
      some (some ⟨.named .variometer, x2⟩, ⟨FrameBuffer.empty, 1, 0⟩) ∧ x2.length ≤ 6 :=
  ⟨witness_invariant_frame, by decide +kernel, by decide⟩
theorem witness_DeliveriesAreCounted :
    exec .prProcess (onChunk FrameBuffer.empty (x1 ++ x2)) = .next (after .prProcess (onChunk FrameBuffer.empty (x1 ++ x2))) ∧
    (after .prProcess (onChunk FrameBuffer.empty (x1 ++ x2))).response = ok .nothing := ⟨exec_after _ _, by decide +kernel⟩
theorem witness_ValidStreamIsDelivered :
    (∀ f ∈ [Frame.mk (.named .attitude) x1, ⟨.named .variometer, x2⟩], IsFrame f.raw ∧ dispGen Config.params f.raw = .ok f) ∧
    [x1.take 4, x1.drop 4 ++ x2].flatten = ([Frame.mk (.named .attitude) x1, ⟨.named .variometer, x2⟩].map Frame.raw).flatten ∧
    2 ≤ 2 ^ Config.params.cntW - 1 ∧ Config.params.qCap = none := by
  refine ⟨?_, by decide, by decide +kernel, rfl⟩
  intro f h
  simp only [List.mem_cons, List.not_mem_nil, or_false] at h
  rcases h with rfl | rfl
  · exact ⟨witness_isFrame.1, by decide +kernel⟩
  · exact ⟨witness_isFrame.2.1, by decide +kernel⟩
theorem witness_CorruptedThenValidFrame :
    (onChunk FrameBuffer.empty (x2bad ++ x2)).params.types = Config.regEx ∧
    (onChunk FrameBuffer.empty (x2bad ++ x2)).params.marker = 0xC8 ∧
    (onChunk FrameBuffer.empty (x2bad ++ x2)).pr = ⟨⟨[], 0, false⟩, 0, 0⟩ ∧
    1 ≤ (onChunk FrameBuffer.empty (x2bad ++ x2)).params.cntW ∧
    (onChunk FrameBuffer.empty (x2bad ++ [0x00] ++ x2)).ops.chunk = x2bad ++ [0x00] ++ x2 := by decide +kernel
/-- The queue's room at its boundary, for each of the two chunks. -/
theorem witness_CorruptedThenValidFrame_room :
    (∀ cap, (capped 12).qCap = some cap → (x2bad ++ x2).length ≤ cap) ∧
    (∀ cap, (capped 13).qCap = some cap → (x2bad ++ [0x00] ++ x2).length ≤ cap) ∧
    (after .prProcess (withParams (capped 12) (onChunk FrameBuffer.empty (x2bad ++ x2)))).response = ok .nothing ∧
    (after .prProcess (withParams (capped 13) (onChunk FrameBuffer.empty (x2bad ++ [0x00] ++ x2)))).response = ok .nothing :=
  ⟨fun _ h => by cases h; decide, fun _ h => by cases h; decide, by decide +kernel, by decide +kernel⟩
theorem witness_ErrorRate :
    (onCounters 0 5).pr.processed = 0 ∧ 0 < (onCounters 3 2).pr.processed ∧ 3 * 66 ≤ 2 * 100 ∧ 2 * 100 < 3 * (66 + 1) := by
  decide

end Sys2Proof.Tests
end

