-- ==== Sys2Proof/Proofs/Checksum.lean ====
section
/-! The checksum: the model's fold is the loop of 40_checksum.md R65, and what `CRC8` answers inside its ports. -/

namespace Sys2Proof.Machine

open Sys2Proof Sys2Proof.Safety

/-! The model's bit loop against the loop on numbers. -/

/-- One iteration: the top bit is the test `128 ≤ acc`, and the shift is doubling mod 256. -/
theorem crcShift_eq_crcIteration (poly acc : Byte) : crcShift poly acc = crcIteration poly acc := by
  have hdouble : acc <<< 1 = BitVec.ofNat 8 (2 * acc.toNat) := by
    apply BitVec.eq_of_toNat_eq
    simp only [BitVec.toNat_shiftLeft, BitVec.toNat_ofNat, Nat.shiftLeft_eq]
    omega
  have hmod : BitVec.ofNat 8 (2 * acc.toNat % 256) = BitVec.ofNat 8 (2 * acc.toNat) := by
    apply BitVec.eq_of_toNat_eq
    simp
  simp [crcShift, crcIteration, BitVec.msb_eq_decide, hdouble, hmod]

/-- The loop may also be unrolled at its last iteration. -/
theorem crcShifts_succ (poly : Byte) (n : Nat) :
    ∀ acc, crcShifts poly (n + 1) acc = crcShift poly (crcShifts poly n acc) := by
  induction n with
  | zero => exact fun _ => rfl
  | succ n ih => exact fun acc => ih (crcShift poly acc)

theorem crcShifts_eq_repeat (poly acc : Byte) (n : Nat) :
    crcShifts poly n acc = Nat.repeat (crcIteration poly) n acc := by
  induction n with
  | zero => rfl
  | succ n ih => rw [crcShifts_succ, ih, crcShift_eq_crcIteration, Nat.repeat]

theorem crcStep_eq_repeat (poly a b : Byte) : crcStep poly a b = Nat.repeat (crcIteration poly) 8 (a ^^^ b) :=
  crcShifts_eq_repeat poly (a ^^^ b) 8

/-- The model's checksum of a byte sequence is the accumulator of R65's loop. -/
theorem crcFold_eq_loopCrc (poly : Byte) (bs : List Byte) : crcFold poly bs = loopCrc poly bs := by
  have hstep : crcStep poly = fun a b => Nat.repeat (crcIteration poly) 8 (a ^^^ b) :=
    funext₂ (crcStep_eq_repeat poly)
  rw [crcFold, hstep]
  rfl

/-! The body of `CRC8`, and the operation inside its ports. -/

theorem slice_toNat (data : List Byte) {start : Int} (h : 0 ≤ start) (stop : Int) :
    slice data start.toNat stop.toNat = (data.drop start.toNat).take (stop - start).toNat := by
  have hlen : stop.toNat - start.toNat = (stop - start).toNat := by omega
  rw [slice, hlen]

/-- The body on a range that is not empty and lies inside the data. -/
theorem crc8_of_range {poly : Byte} {data : List Byte} {start stop : Int} (h0 : 0 ≤ start) (h1 : start < stop)
    (h2 : stop ≤ data.length) :
    crc8 poly data start stop = .ok (loopCrc poly ((data.drop start.toNat).take (stop - start).toNat)) := by
  rcases crc8_cases poly data start stop with ⟨h, _⟩ | ⟨_, _, _, h⟩
  · omega
  · rw [h, crcFold_eq_loopCrc, slice_toNat data h0]

/-- The body on an empty range, a negative start or an end past the data. -/
theorem crc8_of_bad_range {poly : Byte} {data : List Byte} {start stop : Int}
    (h : stop ≤ start ∨ start < 0 ∨ (data.length : Int) < stop) :
    crc8 poly data start stop = .error .invalidRange := by
  rcases crc8_cases poly data start stop with ⟨_, he⟩ | ⟨h0, h1, h2, _⟩
  · exact he
  · omega

theorem crc8Fits_iff (p : Params) (o : Operands) :
    crc8Fits p o = true ↔
      (∀ m, p.dataMax = some m → o.data.length ≤ m) ∧ isSigned p.idxW o.start ∧ isSigned p.idxW o.stop := by
  simp only [crc8Fits, Bool.and_eq_true, withinCap_iff, fitsSigned_iff, and_assoc]

/-- Operands that fit their ports: the operation ends as its body answers. -/
theorem exec_crc8_of_fits {s : State} (h : crc8Fits s.params s.ops = true) :
    exec .crc8 s = s.answer ((crc8 s.ops.poly s.ops.data s.ops.start s.ops.stop).map .byte) := by
  have harm : exec .crc8 s = execCrc8 s := rfl
  rw [harm, execCrc8, h, State.guarded_true]

/-- Settles O20: the port checks pass, and the body's two cases are the two clauses. -/
theorem crc8Result : Obligations.Crc8Result := by
  refine ⟨rfl, fun s hdata hstart hstop => ?_⟩
  have hexec := exec_crc8_of_fits ((crc8Fits_iff s.params s.ops).2 ⟨hdata, hstart, hstop⟩)
  constructor
  · rintro ⟨h0, h1, h2⟩
    rw [crc8_of_range h0 h1 h2] at hexec
    exact hexec
  · intro hbad
    rw [crc8_of_bad_range hbad] at hexec
    exact hexec

end Sys2Proof.Machine
end

