-- ==== Sys2Proof/Proofs/ChannelConversion.lean ====
section
/-! The two conversions of the Channel Codec: the values of `CH_P2US` and `CH_US2P` are the nearest integers of
41_channel_codec.md R76 and R77, and what the operations answer inside their ports. -/

namespace Sys2Proof.Machine

open Sys2Proof Sys2Proof.Safety

/-! An operation that passed its port checks answers as its body does. -/

theorem answersPure_of_body_ok {α : Type} {i : Instr} {s : State} {body : Except ErrorKind α} {f : α → Result} {x : α}
    (hexec : exec i s = s.answer (body.map f)) (hbody : body = .ok x) : AnswersPure i s .ok (f x) := by
  rw [hbody] at hexec
  exact hexec

theorem raises_of_body_error {α : Type} {i : Instr} {s : State} {body : Except ErrorKind α} {f : α → Result}
    {e : ErrorKind} (hexec : exec i s = s.answer (body.map f)) (hbody : body = .error e) : Raises i s e := by
  rw [hbody] at hexec
  exact hexec

theorem exec_chP2us_of_isSigned {s : State} (h : isSigned s.params.valW s.ops.v) :
    exec .chP2us s = s.answer ((p2us s.ops.v).map .int) := by
  have harm : exec .chP2us s = execChP2us s := rfl
  rw [harm, execChP2us, (fitsSigned_iff _ _).2 h, State.guarded_true]

theorem exec_chUs2p_of_isSigned {s : State} (h : isSigned s.params.valW s.ops.us) :
    exec .chUs2p s = s.answer ((us2p s.params.tieRule s.ops.us).map .int) := by
  have harm : exec .chUs2p s = execChUs2p s := rfl
  rw [harm, execChUs2p, (fitsSigned_iff _ _).2 h, State.guarded_true]

/-! From protocol units to microseconds. -/

/-- The body of `CH_P2US` with the numerals of its constants. -/
theorem p2us_eq (v : Int) : p2us v = if v = 992 then .ok 1500
    else if v < 0 ∨ 1984 < v then .error .conversionOutOfRange else .ok ((78 * v + 110084 + 62) / 125) := rfl

theorem p2us_failsafe : p2us 992 = .ok 1500 := rfl

theorem p2us_of_out_of_range {v : Int} (h : v < 0 ∨ 1984 < v) : p2us v = .error .conversionOutOfRange := by
  rw [p2us_eq, if_neg (by omega), if_pos h]

/-- The quotient also holds at the failsafe, where it is 1500. -/
theorem p2us_of_in_range {v : Int} (h0 : 0 ≤ v) (h1 : v ≤ 1984) : p2us v = .ok ((78 * v + 110146) / 125) := by
  by_cases hfail : v = 992
  · subst hfail
    exact p2us_failsafe
  · rw [p2us_eq, if_neg hfail, if_neg (by omega), add_assoc]
    rfl

/-- Adding half of the odd denominator before the division rounds to nearest, and there is no tie. -/
theorem abs_sub_lt_of_div_125 (n : Int) : 2 * |125 * ((n + 62) / 125) - n| < 125 := by
  have hlow : -63 < 125 * ((n + 62) / 125) - n := by omega
  have hhigh : 125 * ((n + 62) / 125) - n < 63 := by omega
  have habs := abs_lt.2 ⟨hlow, hhigh⟩
  omega

/-- Settles O26: the body's cases behind the port check, with the quotient as the nearest integer. -/
theorem protocolToMicroseconds : Obligations.ProtocolToMicroseconds := by
  refine ⟨rfl, fun s hport => ?_⟩
  have hexec := exec_chP2us_of_isSigned hport
  refine ⟨fun hfail => ?_, fun hout => ?_, fun h0 h1 => ?_⟩
  · rw [hfail] at hexec
    exact answersPure_of_body_ok hexec p2us_failsafe
  · exact raises_of_body_error hexec (p2us_of_out_of_range hout)
  · have hnearest := abs_sub_lt_of_div_125 (78 * s.ops.v + 110084)
    rw [add_assoc] at hnearest
    exact ⟨_, answersPure_of_body_ok hexec (p2us_of_in_range h0 h1), hnearest, rfl, by omega, by omega⟩

/-! From microseconds to protocol units: rounding the quotient by 78. -/

/-- `roundQuotient` with the numerals of its constants. -/
theorem roundQuotient_eq (t : TieRule) (n : Int) : roundQuotient t n =
    if 78 < 2 * (n % 78) then n / 78 + 1 else if 2 * (n % 78) < 78 then n / 78 else roundTie t (n / 78) := rfl

/-- The rounding of R77 by cases on the remainder. -/
theorem roundQuotient_cases (t : TieRule) (n : Int) :
    (39 < n % 78 ∧ roundQuotient t n = n / 78 + 1) ∨ (n % 78 < 39 ∧ roundQuotient t n = n / 78) ∨
    (n % 78 = 39 ∧ roundQuotient t n = roundTie t (n / 78)) := by
  rw [roundQuotient_eq]
  rcases lt_trichotomy (n % 78) 39 with hdown | htie | hup
  · exact .inr (.inl ⟨hdown, by rw [if_neg (by omega), if_pos (by omega)]⟩)
  · exact .inr (.inr ⟨htie, by rw [if_neg (by omega), if_neg (by omega)]⟩)
  · exact .inl ⟨hup, if_pos (by omega)⟩

theorem roundTie_even (q : Int) : roundTie .even q = if q % 2 = 0 then q else q + 1 := rfl

theorem roundTie_halfUp (q : Int) : roundTie .halfUp q = if q < 0 then q else q + 1 := rfl

theorem roundTie_eq_or_eq_add_one (t : TieRule) (q : Int) : roundTie t q = q ∨ roundTie t q = q + 1 := by
  cases t with
  | even => exact ite_eq_or_eq _ _ _
  | halfUp => exact ite_eq_or_eq _ _ _

theorem isRounded_of_near {n v : Int} (t : TieRule) (hlow : -39 < n - 78 * v) (hhigh : n - 78 * v < 39) :
    isRounded t n v := by
  have habs := abs_lt.2 ⟨hlow, hhigh⟩
  exact .inl (by omega)

/-- On an exact half both neighbours are 39 away, and the rule picks its own. -/
theorem isRounded_roundTie (t : TieRule) {n : Int} (h : n % 78 = 39) : isRounded t n (roundTie t (n / 78)) := by
  have hhalf : 2 * |n - 78 * roundTie t (n / 78)| = 78 := by
    have hside : n - 78 * roundTie t (n / 78) = 39 ∨ n - 78 * roundTie t (n / 78) = -39 := by
      have hneighbour := roundTie_eq_or_eq_add_one t (n / 78)
      omega
    rw [(abs_eq (by decide)).2 hside]
    rfl
  refine .inr ⟨hhalf, ?_⟩
  cases t with
  | even =>
    rw [roundTie_even]
    split_ifs <;> omega
  | halfUp =>
    rw [roundTie_halfUp]
    split_ifs <;> omega

/-- The model's rounding is the nearest integer with the rule's choice on a half (R77). -/
theorem isRounded_roundQuotient (t : TieRule) (n : Int) : isRounded t n (roundQuotient t n) := by
  rcases roundQuotient_cases t n with ⟨hr, hq⟩ | ⟨hr, hq⟩ | ⟨hr, hq⟩
  · rw [hq]
    exact isRounded_of_near t (by omega) (by omega)
  · rw [hq]
    exact isRounded_of_near t (by omega) (by omega)
  · rw [hq]
    exact isRounded_roundTie t hr

/-- With ties to even the rounded value is in range exactly for 881..2119; the upper end is the tie 1984 + 1/2. -/
theorem isRounded_even_in_range_iff {us v : Int} (h : isRounded .even (125 * us - 110084) v) :
    (0 ≤ v ∧ v ≤ 1984) ↔ (881 ≤ us ∧ us ≤ 2119) := by
  rcases h with hnear | ⟨hhalf, heven⟩
  · obtain ⟨hlow, hhigh⟩ := abs_lt.1 (by omega : |125 * us - 110084 - 78 * v| < 39)
    omega
  · have hside := eq_or_eq_neg_of_abs_eq (by omega : |125 * us - 110084 - 78 * v| = 39)
    have hmod : v % 2 = 0 := heven
    omega

/-- The body of `CH_US2P` with the numerals of its constants: the range check is on the rounded value. -/
theorem us2p_eq (t : TieRule) (us : Int) : us2p t us = if us = 1500 then .ok 992
    else if roundQuotient t (125 * us - 110084) < 0 ∨ 1984 < roundQuotient t (125 * us - 110084)
      then .error .conversionOutOfRange else .ok (roundQuotient t (125 * us - 110084)) := rfl

theorem us2p_failsafe (t : TieRule) : us2p t 1500 = .ok 992 := rfl

theorem us2p_of_rounded_in_range {t : TieRule} {us : Int} (hne : us ≠ 1500)
    (h : 0 ≤ roundQuotient t (125 * us - 110084) ∧ roundQuotient t (125 * us - 110084) ≤ 1984) :
    us2p t us = .ok (roundQuotient t (125 * us - 110084)) := by
  rw [us2p_eq, if_neg hne, if_neg (by omega)]

theorem us2p_of_rounded_out_of_range {t : TieRule} {us : Int} (hne : us ≠ 1500)
    (h : roundQuotient t (125 * us - 110084) < 0 ∨ 1984 < roundQuotient t (125 * us - 110084)) :
    us2p t us = .error .conversionOutOfRange := by
  rw [us2p_eq, if_neg hne, if_pos h]

/-- The operands that ties to even reject. -/
theorem us2p_even_of_out_of_range {us : Int} (h : us < 881 ∨ 2119 < us) :
    us2p .even us = .error .conversionOutOfRange := by
  have hrange := isRounded_even_in_range_iff (isRounded_roundQuotient .even (125 * us - 110084))
  exact us2p_of_rounded_out_of_range (by omega) (by omega)

/-- The operands that ties to even accept. -/
theorem us2p_even_of_in_range {us : Int} (h0 : 881 ≤ us) (h1 : us ≤ 2119) : ∃ v, us2p .even us = .ok v := by
  by_cases hfail : us = 1500
  · exact ⟨992, by rw [hfail, us2p_failsafe]⟩
  · have hrange := isRounded_even_in_range_iff (isRounded_roundQuotient .even (125 * us - 110084))
    exact ⟨_, us2p_of_rounded_in_range hfail (hrange.2 ⟨h0, h1⟩)⟩

/-- Settles O27: the rounded value is the model's own quotient, and its range decides the answer. -/
theorem microsecondsToProtocol : Obligations.MicrosecondsToProtocol := by
  refine ⟨rfl, fun s hport => ?_⟩
  have hexec := exec_chUs2p_of_isSigned hport
  refine ⟨fun hfail => ?_, fun hne => ?_, fun hrule hout => ?_, fun hrule h0 h1 => ?_⟩
  · rw [hfail] at hexec
    exact answersPure_of_body_ok hexec (us2p_failsafe _)
  · exact ⟨_, isRounded_roundQuotient _ _,
      fun hin => answersPure_of_body_ok hexec (us2p_of_rounded_in_range hne hin),
      fun hout => raises_of_body_error hexec (us2p_of_rounded_out_of_range hne hout)⟩
  · rw [hrule] at hexec
    exact raises_of_body_error hexec (us2p_even_of_out_of_range hout)
  · rw [hrule] at hexec
    obtain ⟨v, hv⟩ := us2p_even_of_in_range h0 h1
    exact ⟨v, answersPure_of_body_ok hexec hv⟩

end Sys2Proof.Machine
end

/-! The Frame Envelope and the payload of the Extended Envelope (42_envelope.md R86 to R93, R98, R99): what their
operations answer on operands that fit the ports. -/

namespace Sys2Proof.Machine

open Sys2Proof Sys2Proof.Safety

/-! The two shapes of an operation on an image: a body behind the length check, and an accessor of one byte. -/

theorem State.guarded_of_imageFits {s : State} (hfits : s.ops.raw.length ≤ 64) (body : Except ErrorKind Result) :
    s.guarded (imageFits s.ops.raw) body = s.answer body := by
  rw [(imageFits_iff _).2 hfits, State.guarded_true]

/-- An accessor of a byte the image does not have is refused, whatever the image's length. -/
theorem isRefused_of_missing_byte {i : Instr} {s : State} {k : Nat} {body : Byte → Except ErrorKind Result}
    (hexec : exec i s = s.readImageByte k body) (hshort : s.ops.raw.length ≤ k) : IsRefused i s :=
  hexec.trans (State.readImageByte_of_short hshort body)

theorem exec_of_present_byte {i : Instr} {s : State} {k : Nat} {body : Byte → Except ErrorKind Result} {b : Byte}
    (hexec : exec i s = s.readImageByte k body) (hfits : s.ops.raw.length ≤ 64) (hb : s.ops.raw[k]? = some b) :
    exec i s = s.answer (body b) :=
  hexec.trans (State.readImageByte_of_some hfits hb body)

/-! Construction. -/

/-- The stored checksum of R69 against the model's fold over `raw[2..len−1)`. -/
theorem checksumGood_iff (raw : List Byte) : checksumGood raw ↔
    raw[raw.length - 1]? = some (crcFold Config.polyProd (slice raw 2 (raw.length - 1))) := by
  rw [crcFold_eq_loopCrc, slice, Nat.sub_sub]
  exact Iff.rfl

theorem envNew_of_short {raw : List Byte} (h : raw.length ≤ 3) : envNew raw = .error .invalidRange := by
  rcases envNew_cases raw with ⟨_, hanswer⟩ | ⟨hlen, _⟩ | ⟨hlen, _⟩
  · exact hanswer
  · omega
  · omega

theorem envNew_of_checksumGood {raw : List Byte} (hlen : 4 ≤ raw.length) (hgood : checksumGood raw) :
    envNew raw = .ok () := by
  rcases envNew_cases raw with ⟨hshort, _⟩ | ⟨_, _, hanswer⟩ | ⟨_, hbad, _⟩
  · omega
  · exact hanswer
  · exact absurd ((checksumGood_iff raw).1 hgood) hbad

theorem envNew_of_not_checksumGood {raw : List Byte} (hlen : 4 ≤ raw.length) (hbad : ¬ checksumGood raw) :
    envNew raw = .error .corruptedFrame := by
  rcases envNew_cases raw with ⟨hshort, _⟩ | ⟨_, hgood, _⟩ | ⟨_, _, hanswer⟩
  · omega
  · exact absurd ((checksumGood_iff raw).2 hgood) hbad
  · exact hanswer

theorem exec_envNew_of_fits {s : State} (hfits : s.ops.raw.length ≤ 64) :
    exec .envNew s = s.answer ((envNew s.ops.raw).map fun _ => .nothing) :=
  State.guarded_of_imageFits hfits _

theorem exec_envNewRaw_of_fits {s : State} (hfits : s.ops.raw.length ≤ 64) :
    exec .envNewRaw s = s.answer ((envNewRaw s.ops.raw).map fun _ => .nothing) :=
  State.guarded_of_imageFits hfits _

/-- Settles O30: behind the length check, `ENV_NEW` answers as its body does on each side of 3 bytes and of the
checksum. -/
theorem envelopeConstruction : Obligations.EnvelopeConstruction := by
  refine ⟨rfl, rfl, fun s hfits => ?_⟩
  have hexec := exec_envNew_of_fits hfits
  refine ⟨?_, fun hshort => ?_, fun hlen hgood => ?_, fun hlen hbad => ?_⟩
  · exact answersPure_of_body_ok (exec_envNewRaw_of_fits hfits) rfl
  · exact raises_of_body_error hexec (envNew_of_short hshort)
  · exact answersPure_of_body_ok hexec (envNew_of_checksumGood hlen hgood)
  · exact raises_of_body_error hexec (envNew_of_not_checksumGood hlen hbad)

/-! The accessors. -/

theorem lookupAddress_of_mem {p : Params} {a : Byte} (h : a ∈ p.addresses) : lookupAddress p a = .ok a :=
  if_pos (List.contains_iff_mem.2 h)

theorem lookupAddress_of_not_mem {p : Params} {a : Byte} (h : a ∉ p.addresses) :
    lookupAddress p a = .error .unknownAddress :=
  if_neg (mt List.contains_iff_mem.1 h)

theorem exec_envAddr (s : State) :
    exec .envAddr s = s.readImageByte 0 fun a => (lookupAddress s.params a).map .byte := rfl

theorem exec_envLen (s : State) : exec .envLen s = s.readImageByte 1 fun l => .ok (.byte l) := rfl

theorem exec_envCsum (s : State) :
    exec .envCsum s = s.readImageByte (s.ops.raw.length - 1) fun c => .ok (.byte c) := rfl

/-- The answer of `ENV_TYPE` for a type byte, through the registry (R90). -/
def typeAnswer (p : Params) (t : Byte) : Except ErrorKind Result :=
  match lookupType p t with
  | some d => .ok (.typed t d)
  | none => .error .unknownFrameType

theorem typeAnswer_of_some {p : Params} {t : Byte} {d : KindDesc} (h : lookupType p t = some d) :
    typeAnswer p t = .ok (.typed t d) := by
  rw [typeAnswer, h]

theorem typeAnswer_of_none {p : Params} {t : Byte} (h : lookupType p t = none) :
    typeAnswer p t = .error .unknownFrameType := by
  rw [typeAnswer, h]

theorem exec_envType (s : State) : exec .envType s = s.readImageByte 2 (typeAnswer s.params) := rfl

theorem envAddr_clauses {s : State} {a : Byte} (hfits : s.ops.raw.length ≤ 64) (ha : s.ops.raw[0]? = some a) :
    (a ∈ s.params.addresses → AnswersPure .envAddr s .ok (.byte a)) ∧
    (a ∉ s.params.addresses → Raises .envAddr s .unknownAddress) := by
  have hexec := exec_of_present_byte (exec_envAddr s) hfits ha
  exact ⟨fun hmem => answersPure_of_body_ok hexec (lookupAddress_of_mem hmem),
    fun hmem => raises_of_body_error hexec (lookupAddress_of_not_mem hmem)⟩

theorem envType_clauses {s : State} {t : Byte} (hfits : s.ops.raw.length ≤ 64) (ht : s.ops.raw[2]? = some t) :
    (∀ d, lookupType s.params t = some d → AnswersPure .envType s .ok (.typed t d)) ∧
    (lookupType s.params t = none → Raises .envType s .unknownFrameType) := by
  have hexec := exec_of_present_byte (exec_envType s) hfits ht
  constructor
  · intro d hd
    rw [typeAnswer_of_some hd] at hexec
    exact hexec
  · intro hnone
    rw [typeAnswer_of_none hnone] at hexec
    exact hexec

/-- The stored checksum is the byte at the last index (R92). -/
theorem envCsum_of_getLast {s : State} {c : Byte} (hfits : s.ops.raw.length ≤ 64) (hc : s.ops.raw.getLast? = some c) :
    AnswersPure .envCsum s .ok (.byte c) := by
  rw [List.getLast?_eq_getElem?] at hc
  exact exec_of_present_byte (exec_envCsum s) hfits hc

/-! The image from an offset to its end: `ENV_DATA` and `XENV_DATA`. -/

theorem slice_to_end (raw : List Byte) (o : Nat) : slice raw o raw.length = raw.drop o :=
  List.take_of_length_le (List.length_drop ▸ le_rfl)

/-- An operation that returns `raw[o..len)` behind the length check and the check that the image reaches `o`. -/
def ReturnsFrom (i : Instr) (s : State) (o : Nat) : Prop :=
  exec i s = s.guarded (imageFits s.ops.raw && decide (o ≤ s.ops.raw.length))
    (.ok (.bytes (slice s.ops.raw o s.ops.raw.length)))

theorem ReturnsFrom.answersPure {i : Instr} {s : State} {o : Nat} (hexec : ReturnsFrom i s o)
    (hfits : s.ops.raw.length ≤ 64) (ho : o ≤ s.ops.raw.length) :
    AnswersPure i s .ok (.bytes (s.ops.raw.drop o)) := by
  rw [ReturnsFrom, (imageFits_iff _).2 hfits, decide_eq_true ho, slice_to_end] at hexec
  exact hexec

theorem ReturnsFrom.isRefused {i : Instr} {s : State} {o : Nat} (hexec : ReturnsFrom i s o)
    (ho : s.ops.raw.length < o) : IsRefused i s := by
  rw [ReturnsFrom, decide_eq_false (Nat.not_le.2 ho), Bool.and_false] at hexec
  exact hexec

theorem envData_returnsFrom (s : State) : ReturnsFrom .envData s 2 := rfl

theorem xenvData_returnsFrom {s : State} {d : KindDesc} {o : XDataOffset} (hkind : s.ops.kind = .desc d)
    (hcls : d.cls = .extended o) : ReturnsFrom .xenvData s (xDataOffsetValue o) := by
  have harm : exec .xenvData s = execXenvData s := rfl
  have hoffset : xenvOffset s.ops.kind = some (xDataOffsetValue o) := by simp only [hkind, xenvOffset, hcls]
  rw [ReturnsFrom, harm, execXenvData, hoffset]

/-- Settles O31: each accessor by the byte it reads, missing or present. -/
theorem baseAccessors : Obligations.BaseAccessors := by
  refine ⟨rfl, rfl, rfl, rfl, rfl, fun s hfits => ?_⟩
  refine ⟨fun hlen => ⟨?_, ?_⟩, fun hlen => ⟨?_, ?_⟩, fun hlen => ?_, fun a ha => envAddr_clauses hfits ha,
    fun l hl => ⟨?_, ?_⟩, fun t ht => envType_clauses hfits ht, fun c hc => envCsum_of_getLast hfits hc⟩
  · exact isRefused_of_missing_byte (exec_envAddr s) (by omega)
  · exact isRefused_of_missing_byte (exec_envCsum s) (by omega)
  · exact isRefused_of_missing_byte (exec_envLen s) (by omega)
  · exact (envData_returnsFrom s).isRefused hlen
  · exact isRefused_of_missing_byte (exec_envType s) (by omega)
  · exact exec_of_present_byte (exec_envLen s) hfits hl
  · have hlen : 1 < s.ops.raw.length := (List.getElem?_eq_some_iff.1 hl).1
    exact (envData_returnsFrom s).answersPure hfits hlen

/-- Settles O35: the offset of an extended kind's class decides where the image is cut, 6 or 5. -/
theorem extendedPayload : Obligations.ExtendedPayload := by
  refine ⟨rfl, fun s d hfits hkind => ⟨fun hcls => ?_, fun hcls => ?_⟩⟩
  all_goals
    have hfrom := xenvData_returnsFrom hkind hcls
    exact ⟨hfrom.answersPure hfits, hfrom.isRefused⟩

/-! The size of an image as a kind. -/

theorem frameSizeOf_of_fixedSize {d : KindDesc} {n : Nat} (h : d.fixedSize = some n) (raw : List Byte) :
    frameSizeOf (some d) raw = n := by
  rw [frameSizeOf, h, Option.getD_some]

theorem frameSizeOf_of_no_fixedSize {d : KindDesc} (h : d.fixedSize = none) (raw : List Byte) :
    frameSizeOf (some d) raw = raw.length := by
  rw [frameSizeOf, h, Option.getD_none]

theorem envSize_of_fits {s : State} {n : Nat} (hfits : s.ops.raw.length ≤ 64)
    (hsize : frameSizeOf (kindOperandDesc s.ops.kind) s.ops.raw = n) : AnswersPure .envSize s .ok (.int n) := by
  subst hsize
  exact State.guarded_of_imageFits hfits _

/-- Settles O32: the three forms of the kind operand, no lookup made. -/
theorem frameSizeOfKind : Obligations.FrameSizeOfKind := by
  refine ⟨rfl, fun s hfits => ⟨fun hraw => envSize_of_fits hfits ?_, fun d hd => ⟨fun hnone => envSize_of_fits hfits ?_,
    fun n hn => envSize_of_fits hfits ?_⟩⟩⟩
  · rw [hraw]
    rfl
  · rw [hd]
    exact frameSizeOf_of_no_fixedSize hnone _
  · rw [hd]
    exact frameSizeOf_of_fixedSize hn _

/-! The outbound layout. -/

theorem envBuild_of_le (addr type : Byte) {payload : List Byte} (h : payload.length ≤ 60) :
    envBuild addr type payload = .ok ([addr, BitVec.ofNat 8 (payload.length + 2), type] ++ payload ++
      [loopCrc 0xD5 (type :: payload)]) := by
  rcases envBuild_cases addr type payload with ⟨hlong, _⟩ | ⟨_, hbuilt⟩
  · omega
  · rw [hbuilt, crcFold_eq_loopCrc]
    rfl

theorem envBuild_of_gt (addr type : Byte) {payload : List Byte} (h : 60 < payload.length) :
    envBuild addr type payload = .error .invalidLength := by
  rcases envBuild_cases addr type payload with ⟨_, hanswer⟩ | ⟨hshort, _⟩
  · exact hanswer
  · omega

theorem exec_envBuild_of_withinCap {s : State} (h : withinCap s.params.dataMax s.ops.payload.length = true) :
    exec .envBuild s = s.answer ((envBuild s.ops.addr s.ops.type s.ops.payload).map .bytes) := by
  have harm : exec .envBuild s = execEnvBuild s := rfl
  rw [harm, execEnvBuild, h, State.guarded_true]

/-- Settles O37: behind the `DATA_MAX` check, the body builds up to 60 payload bytes and raises on more. -/
theorem outboundLayout : Obligations.OutboundLayout := by
  refine ⟨rfl, fun s hport => ?_⟩
  have hexec := exec_envBuild_of_withinCap ((withinCap_iff _ _).2 hport)
  exact ⟨fun hle => answersPure_of_body_ok hexec (envBuild_of_le _ _ hle),
    fun hgt => raises_of_body_error hexec (envBuild_of_gt _ _ hgt)⟩

end Sys2Proof.Machine


/-! The Frame Buffer (43_frame_buffer.md R112, R114, R115): what adding, resynchronizing and flushing leave in the
buffer, and what their operations answer in every state. -/

namespace Sys2Proof.Machine

open Sys2Proof Sys2Proof.Safety

/-! Adding a chunk: the three branches of the body, then the operation on each. -/

theorem FrameBuffer.add_nil (p : Params) (fb : FrameBuffer) : fb.add p [] = some fb := rfl

theorem FrameBuffer.add_of_fits {p : Params} {c : List Byte} {fb : FrameBuffer} (hne : c ≠ [])
    (hroom : ∀ cap, p.qCap = some cap → fb.q.length + c.length ≤ cap) : fb.add p c = some (fb.qAppend c).derive := by
  rw [FrameBuffer.add, if_neg hne, if_pos ((withinCap_iff _ _).2 hroom)]

theorem FrameBuffer.add_of_over_cap {p : Params} {c : List Byte} {fb : FrameBuffer} (hne : c ≠ [])
    (hover : ∃ cap, p.qCap = some cap ∧ cap < fb.q.length + c.length) : fb.add p c = none := by
  rw [FrameBuffer.add, if_neg hne, (withinCap_false_iff _ _).2 hover]
  rfl

theorem fbAdd_answers_of_add_eq_some {s : State} {fb : FrameBuffer}
    (h : s.pr.fb.add s.params s.ops.chunk = some fb) :
    Answers .fbAdd s { s.pr with fb := fb } s.sink .ok .nothing := by
  rcases execFbAdd_cases s with ⟨hnone, _⟩ | ⟨fb', hsome, hexec⟩
  · simp [h] at hnone
  · obtain rfl : fb = fb' := Option.some.inj (h.symm.trans hsome)
    exact hexec

theorem fbAdd_isRefused_of_add_eq_none {s : State} (h : s.pr.fb.add s.params s.ops.chunk = none) :
    IsRefused .fbAdd s := by
  rcases execFbAdd_cases s with ⟨_, hexec⟩ | ⟨fb, hsome, _⟩
  · exact hexec
  · simp [h] at hsome

/-! DERIVE, field by field; `FrameBuffer.derive_q` gives the queue. -/

theorem FrameBuffer.derive_size_of_size_ne_zero {fb : FrameBuffer} (h : fb.size ≠ 0) : fb.derive.size = fb.size := by
  rw [FrameBuffer.derive_of_size_ne_zero h]

theorem FrameBuffer.derive_size_of_size_zero {fb : FrameBuffer} (h : fb.size = 0) :
    fb.derive.size = declaredSize fb.q := by
  rw [FrameBuffer.derive_of_size_zero h, derivedBuffer_size]

/-- The flag looks at the hypothesis DERIVE leaves, not at the one it found. -/
theorem FrameBuffer.derive_avail_iff (fb : FrameBuffer) : fb.derive.avail = true ↔
    (fb.derive.size ≠ 0 ∧ fb.derive.size ≤ fb.derive.q.length) ∨ 130 ≤ fb.derive.q.length := by
  by_cases h : fb.size = 0
  · rw [FrameBuffer.derive_of_size_zero h]
    exact derivedBuffer_avail_iff fb.q
  · rw [FrameBuffer.derive_of_size_ne_zero h]
    exact decide_eq_true_iff

/-- Settles O39: each clause is one branch of the body; in the appending one the buffer left is DERIVE's. -/
theorem addAppendsThenDerives : Obligations.AddAppendsThenDerives := by
  refine ⟨rfl, fun s => ⟨fun hempty => ?_, fun hne hroom => ?_, fun hne hover => ?_⟩⟩
  · refine fbAdd_answers_of_add_eq_some (fb := s.pr.fb) ?_
    rw [hempty, FrameBuffer.add_nil]
  · refine ⟨_, fbAdd_answers_of_add_eq_some (FrameBuffer.add_of_fits hne hroom), ?_, fun hset => ?_, fun hunset => ?_,
      FrameBuffer.derive_avail_iff _⟩
    · rw [FrameBuffer.derive_q, FrameBuffer.qAppend_q]
    · exact FrameBuffer.derive_size_of_size_ne_zero hset
    · rw [FrameBuffer.derive_q]
      exact FrameBuffer.derive_size_of_size_zero hunset
  · exact fbAdd_isRefused_of_add_eq_none (FrameBuffer.add_of_over_cap hne hover)

/-! Resynchronization: the marker behind the head decides, and the first such marker is unique. -/

theorem FrameBuffer.resync_of_not_mem {m : Byte} {fb : FrameBuffer} (h : m ∉ fb.q.tail) :
    fb.resync m = (false, FrameBuffer.empty) := by
  rcases fb.resync_cases m with ⟨_, hflushed⟩ | ⟨pre, post, htail, _, _⟩
  · exact hflushed
  · exact absurd (by simp [htail]) h

/-- Where the first marker stands is a function of the bytes. -/
theorem dropWhile_ne_of_first {m : Byte} {pre : List Byte} (hfirst : m ∉ pre) (post : List Byte) :
    (pre ++ m :: post).dropWhile (· != m) = m :: post := by
  rw [List.dropWhile_append_of_pos fun b hb => bne_iff_ne.2 (ne_of_mem_of_not_mem hb hfirst),
    List.dropWhile_cons_of_neg (by simp)]

theorem FrameBuffer.resync_of_first_marker {m : Byte} {fb : FrameBuffer} {pre post : List Byte}
    (htail : fb.q.tail = pre ++ m :: post) (hfirst : m ∉ pre) : fb.resync m = (true, derivedBuffer (m :: post)) := by
  rcases fb.resync_cases m with ⟨hnone, _⟩ | ⟨pre', post', htail', hfirst', hfound⟩
  · exact absurd (by simp [htail]) hnone
  · have hsame : m :: post = m :: post' := by
      rw [← dropWhile_ne_of_first hfirst, ← htail, htail', dropWhile_ne_of_first hfirst']
    rw [hfound, hsame]

theorem fbResync_answers {s : State} {found : Bool} {fb : FrameBuffer}
    (h : s.pr.fb.resync s.params.marker = (found, fb)) :
    Answers .fbResync s { s.pr with fb := fb } s.sink .ok (.found found) := by
  have hexec : exec .fbResync s = execFbResync s := rfl
  rw [Answers, hexec, execFbResync, h]
  rfl

/-- Settles O40: the two answers of the resynchronization, told apart by the marker behind the head. -/
theorem resyncStopsAtFirstMarkerBehindHead : Obligations.ResyncStopsAtFirstMarkerBehindHead := by
  refine ⟨rfl, fun s => ⟨fun hnone => ?_, fun pre post htail hfirst => ?_⟩⟩
  · exact fbResync_answers (FrameBuffer.resync_of_not_mem hnone)
  · exact fbResync_answers (FrameBuffer.resync_of_first_marker htail hfirst)

/-! Flushing: the buffer left does not depend on the one found, so a second flush finds what it would leave. -/

theorem fbFlush_answers (s : State) : Answers .fbFlush s { s.pr with fb := ⟨[], 0, false⟩ } s.sink .ok .nothing := rfl

theorem prFlush_answers (s : State) : Answers .prFlush s { s.pr with fb := ⟨[], 0, false⟩ } s.sink .ok .nothing := rfl

/-- An operation has one answer: the next state is the one `Answers` names. -/
theorem eq_of_answers_of_exec {i : Instr} {s t : State} {pr : Processor} {sink : List Frame} {st : Status} {r : Result}
    (h : Answers i s pr sink st r) (ht : exec i s = .next t) :
    t = { s with pr := pr, sink := sink, ops := Operands.idle, response := some ⟨st, r⟩ } :=
  Host.Outcome.next.inj (ht.symm.trans h)

/-- An operation that in every state only clears the buffer changes nothing when it runs again. -/
theorem eq_of_exec_flush_twice {i : Instr}
    (hflush : ∀ s : State, Answers i s { s.pr with fb := ⟨[], 0, false⟩ } s.sink .ok .nothing) {s t u : State}
    (ht : exec i s = .next t) (hu : exec i t = .next u) : u = t := by
  obtain rfl := eq_of_answers_of_exec (hflush s) ht
  have hsecond := eq_of_answers_of_exec (hflush _) hu
  exact hsecond

/-- Settles O44: both operations clear the buffer in every state, and so they are idempotent. -/
theorem flushClearsTheBufferOnly : Obligations.FlushClearsTheBufferOnly := by
  refine ⟨rfl, rfl, fun s => ⟨fbFlush_answers s, prFlush_answers s, fun t u => ⟨?_, ?_⟩⟩⟩
  · exact eq_of_exec_flush_twice fbFlush_answers
  · exact eq_of_exec_flush_twice prFlush_answers

end Sys2Proof.Machine


/-! The statistics of the Frame Processor (45_processor.md R134, R135): what resetting the counters leaves, and the error
rate they give. -/

namespace Sys2Proof.Machine

open Sys2Proof Sys2Proof.Safety

theorem prRstat_answers (s : State) : Answers .prRstat s ⟨s.pr.fb, 0, 0⟩ s.sink .ok .nothing := rfl

/-- Settles O59: the body rewrites the two counters of the processor and nothing beside them. -/
theorem resetStatisticsZeroesCounters : Obligations.ResetStatisticsZeroesCounters :=
  ⟨rfl, prRstat_answers⟩

theorem errorRate_of_processed_zero (errors : Nat) : errorRate 0 errors = 0 := rfl

/-- The truncated quotient is the only number that meets its two defining inequalities. -/
theorem errorRate_eq_of_bounds {processed errors rate : Nat} (hpos : 0 < processed)
    (hlow : processed * rate ≤ errors * 100) (hhigh : errors * 100 < processed * (rate + 1)) :
    errorRate processed errors = rate := by
  rw [errorRate, if_neg hpos.ne']
  rw [Nat.mul_comm] at hlow
  rw [Nat.mul_comm processed] at hhigh
  exact Nat.div_eq_of_lt_le hlow hhigh

theorem prErate_answersPure {s : State} {rate : Nat} (h : errorRate s.pr.processed s.pr.errors = rate) :
    AnswersPure .prErate s .ok (.int rate) := by
  subst h
  rfl

/-- Settles O60: the answer is the model's error rate, read off in the two cases of the counter. The
namespace tells the theorem from the model's function of the same name. -/
theorem Statistics.errorRate : Obligations.ErrorRate := by
  refine ⟨rfl, fun s => ⟨fun hzero => ?_, fun rate hpos hlow hhigh => ?_⟩⟩
  · refine prErate_answersPure (rate := 0) ?_
    rw [hzero, errorRate_of_processed_zero]
  · exact prErate_answersPure (errorRate_eq_of_bounds hpos hlow hhigh)

end Sys2Proof.Machine

/-! What every operation and every step keeps: the shape of the state an operation leaves, in five cases, and from it the
invariant of 10_state.md R24, the bounds of the counters and of the queue, and the frames over all operations. -/

namespace Sys2Proof.Machine

open Sys2Proof Sys2Proof.Safety

/- One after the other: each proof elaborated at the same time takes a thread of its own. -/
set_option Elab.async false

/-! What an operation of the unit FB can leave in the buffer, and the drain loop under the invariant. -/

/-- `fb'` is what one operation of the buffer makes of `fb`: a chunk added, an extraction, a resynchronization or a
flush (43_frame_buffer.md R112 to R115). -/
def BufferMove (p : Params) (fb fb' : FrameBuffer) : Prop :=
  (∃ c, fb.add p c = some fb') ∨ fb' = (fb.get p.marker).2 ∨ fb' = (fb.resync p.marker).2 ∨ fb' = FrameBuffer.empty

theorem BufferMove.invariant {p : Params} {fb fb' : FrameBuffer} (h : BufferMove p fb fb') (hi : BufferInvariant fb) :
    BufferInvariant fb' := by
  rcases h with ⟨c, hadd⟩ | rfl | rfl | rfl
  · exact FrameBuffer.add_invariant hi hadd
  · exact FrameBuffer.get_invariant _ _
  · exact FrameBuffer.resync_invariant _ _
  · exact bufferInvariant_empty

theorem length_le_of_suffix {q q' : List Byte} (h : ∃ lost, q = lost ++ q') : q'.length ≤ q.length := by
  obtain ⟨lost, rfl⟩ := h
  simp

/-- Only an added chunk lengthens the queue, and it is checked against `Q_CAP`. -/
theorem FrameBuffer.add_length_le_cap {p : Params} {c : List Byte} {fb fb' : FrameBuffer} {cap : Nat}
    (h : fb.add p c = some fb') (hcap : p.qCap = some cap) (hq : fb.q.length ≤ cap) : fb'.q.length ≤ cap := by
  rcases FrameBuffer.add_eq_some h with ⟨_, rfl⟩ | ⟨_, hroom, rfl⟩
  · exact hq
  · simpa using hroom cap hcap

theorem BufferMove.length_le_cap {p : Params} {fb fb' : FrameBuffer} {cap : Nat} (h : BufferMove p fb fb')
    (hcap : p.qCap = some cap) (hq : fb.q.length ≤ cap) : fb'.q.length ≤ cap := by
  rcases h with ⟨c, hadd⟩ | rfl | rfl | rfl
  · exact FrameBuffer.add_length_le_cap hadd hcap hq
  · exact (length_le_of_suffix (FrameBuffer.get_suffix _ _)).trans hq
  · exact (length_le_of_suffix (FrameBuffer.resync_suffix _ _)).trans hq
  · exact Nat.zero_le _

theorem Processor.drain_not_avail {p : Params} {pr pr' : Processor} {fs : List Frame}
    (h : pr.drain p = some (fs, pr')) : pr'.fb.avail = false :=
  Processor.drain_induction (motive := fun _ _ pr'' => pr''.fb.avail = false) (fun _ hstop => hstop)
    (fun _ _ _ _ _ _ _ hrest => hrest) h

theorem Processor.drain_invariant {p : Params} {pr pr' : Processor} {fs : List Frame}
    (h : pr.drain p = some (fs, pr')) (hi : BufferInvariant pr.fb) : BufferInvariant pr'.fb :=
  Processor.drain_induction (motive := fun pr _ pr'' => BufferInvariant pr.fb → BufferInvariant pr''.fb)
    (fun _ _ hi => hi) (fun _ _ _ _ _ _ hb hrest _ => hrest (Processor.build_invariant hb)) h hi

theorem Processor.drain_suffix {p : Params} {pr pr' : Processor} {fs : List Frame}
    (h : pr.drain p = some (fs, pr')) : ∃ lost, pr.fb.q = lost ++ pr'.fb.q := by
  refine Processor.drain_induction (motive := fun pr _ pr'' => ∃ lost, pr.fb.q = lost ++ pr''.fb.q)
    (fun pr _ => ⟨[], rfl⟩) ?_ h
  rintro pr f pr₁ fs pr₂ _ hb ⟨lost₂, h₂⟩
  obtain ⟨lost₁, h₁⟩ := Processor.build_suffix hb
  exact ⟨lost₁ ++ lost₂, by rw [h₁, h₂, List.append_assoc]⟩

/-- Both counters are within `CNT_W` bits (10_state.md R16). -/
def Processor.CountersFit (p : Params) (pr : Processor) : Prop :=
  pr.processed ≤ 2 ^ p.cntW - 1 ∧ pr.errors ≤ 2 ^ p.cntW - 1

theorem Processor.build_countersFit {p : Params} {pr pr' : Processor} {f : Option Frame}
    (h : pr.build p = some (f, pr')) (hfit : pr.CountersFit p) : pr'.CountersFit p := by
  obtain ⟨_, _, hprocessed, herrors⟩ := Processor.build_counts h
  obtain ⟨hp, he⟩ := hfit
  exact ⟨by omega, by omega⟩

theorem Processor.drain_countersFit {p : Params} {pr pr' : Processor} {fs : List Frame}
    (h : pr.drain p = some (fs, pr')) (hfit : pr.CountersFit p) : pr'.CountersFit p :=
  Processor.drain_induction (motive := fun pr _ pr'' => pr.CountersFit p → pr''.CountersFit p)
    (fun _ _ hfit => hfit) (fun _ _ _ _ _ _ hb hrest hfit => hrest (Processor.build_countersFit hb hfit)) h hfit

/-! The state an operation leaves. -/

/-- An operation or a step has one next state. -/
theorem next_unique {o : Outcome} {t u : State} (ht : o = .next t) (hu : o = .next u) : t = u :=
  Host.Outcome.next.inj (ht.symm.trans hu)

/-- What an operation can leave, told apart by what it does to the processor and the sink: nothing; a move of the buffer;
the drained processor and its deliveries; a build; the counters zeroed. -/
theorem exec_shape {i : Instr} {s t : State} (h : exec i s = .next t) :
    (∃ st r, t = s.done st r) ∨
    (∃ fb r, (bufferInstr i = true ∨ i = .prFlush) ∧ BufferMove s.params s.pr.fb fb ∧
      t = (s.withBuffer fb).done .ok r) ∨
    (∃ fs pr, i = .prProcess ∧ s.pr.process s.params s.ops.chunk = some (fs, pr) ∧
      t = State.done { s with pr := pr, sink := s.sink ++ fs } .ok .nothing) ∨
    (∃ f pr, i = .prBuild ∧ s.pr.build s.params = some (f, pr) ∧
      t = State.done { s with pr := pr } .ok (frameResult f)) ∨
    (i = .prRstat ∧ t = State.done { s with pr := ⟨s.pr.fb, 0, 0⟩ } .ok .nothing) := by
  have answer : ∀ {u : State}, exec i s = .next u → t = u := fun hu => next_unique h hu
  by_cases hpure : pureInstr i = true
  · obtain ⟨st, r, hexec⟩ := exec_pure_cases hpure s
    exact .inl ⟨st, r, answer hexec⟩
  · cases i with
    | fbAdd =>
      rcases execFbAdd_cases s with ⟨_, hexec⟩ | ⟨fb, hadd, hexec⟩
      · exact .inl ⟨_, _, answer hexec⟩
      · exact .inr (.inl ⟨fb, _, .inl rfl, .inl ⟨_, hadd⟩, answer hexec⟩)
    | fbGet => exact .inr (.inl ⟨_, _, .inl rfl, .inr (.inl rfl), answer rfl⟩)
    | fbResync => exact .inr (.inl ⟨_, _, .inl rfl, .inr (.inr (.inl rfl)), answer rfl⟩)
    | fbFlush => exact .inr (.inl ⟨_, _, .inl rfl, .inr (.inr (.inr rfl)), answer rfl⟩)
    | prFlush => exact .inr (.inl ⟨_, _, .inr rfl, .inr (.inr (.inr rfl)), answer rfl⟩)
    | prProcess =>
      rcases execPrProcess_cases s with ⟨_, hexec⟩ | ⟨fs, pr, hprocess, hexec⟩
      · exact .inl ⟨_, _, answer hexec⟩
      · exact .inr (.inr (.inl ⟨fs, pr, rfl, hprocess, answer hexec⟩))
    | prBuild =>
      rcases execPrBuild_cases s with ⟨_, hexec⟩ | ⟨f, pr, hbuild, hexec⟩
      · exact .inl ⟨_, _, answer hexec⟩
      · exact .inr (.inr (.inr (.inl ⟨f, pr, rfl, hbuild, answer hexec⟩)))
    | prRstat => exact .inr (.inr (.inr (.inr ⟨rfl, answer rfl⟩)))
    | prErate => exact .inl ⟨_, _, answer rfl⟩
    | _ => exact absurd rfl hpure

/-- A property of the parameters and the processor that the moves of the buffer, a build, a drain and zeroed counters
keep is kept by every operation. -/
theorem exec_keeps {P : Params → Processor → Prop}
    (hmove : ∀ p pr fb, P p pr → BufferMove p pr.fb fb → P p (pr.withBuffer fb))
    (hbuild : ∀ p pr f pr', P p pr → pr.build p = some (f, pr') → P p pr')
    (hdrain : ∀ p pr fs pr', P p pr → pr.drain p = some (fs, pr') → P p pr')
    (hreset : ∀ p pr, P p pr → P p ⟨pr.fb, 0, 0⟩) {i : Instr} {s t : State} (hs : P s.params s.pr)
    (h : exec i s = .next t) : P t.params t.pr := by
  rcases exec_shape h with ⟨st, r, rfl⟩ | ⟨fb, r, _, hfb, rfl⟩ | ⟨fs, pr, _, hprocess, rfl⟩ | ⟨f, pr, _, hb, rfl⟩ |
    ⟨_, rfl⟩
  · exact hs
  · exact hmove _ _ _ hs hfb
  · obtain ⟨fb, hadd, hd⟩ := Processor.process_eq_some_iff.1 hprocess
    exact hdrain _ _ _ _ (hmove _ _ _ hs (.inl ⟨_, hadd⟩)) hd
  · exact hbuild _ _ _ _ hs hb
  · exact hreset _ _ hs

theorem exec_invariant {i : Instr} {s t : State} (hs : BufferInvariant s.pr.fb) (h : exec i s = .next t) :
    BufferInvariant t.pr.fb :=
  exec_keeps (P := fun _ pr => BufferInvariant pr.fb) (fun _ _ _ hi hm => hm.invariant hi)
    (fun _ _ _ _ _ hb => Processor.build_invariant hb) (fun _ _ _ _ hi hd => Processor.drain_invariant hd hi)
    (fun _ _ hi => hi) hs h

theorem exec_countersFit {i : Instr} {s t : State} (hs : s.pr.CountersFit s.params) (h : exec i s = .next t) :
    t.pr.CountersFit t.params :=
  exec_keeps (P := fun p pr => pr.CountersFit p) (fun _ _ _ hfit _ => hfit)
    (fun _ _ _ _ hfit hb => Processor.build_countersFit hb hfit)
    (fun _ _ _ _ hfit hd => Processor.drain_countersFit hd hfit) (fun _ _ _ => ⟨Nat.zero_le _, Nat.zero_le _⟩) hs h

theorem exec_queue_within_cap {i : Instr} {s t : State}
    (hs : ∀ cap, s.params.qCap = some cap → s.pr.fb.q.length ≤ cap) (h : exec i s = .next t) :
    ∀ cap, t.params.qCap = some cap → t.pr.fb.q.length ≤ cap :=
  exec_keeps (P := fun p pr => ∀ cap, p.qCap = some cap → pr.fb.q.length ≤ cap)
    (fun _ _ _ hq hm cap hcap => hm.length_le_cap hcap (hq cap hcap))
    (fun _ _ _ _ hq hb cap hcap => (length_le_of_suffix (Processor.build_suffix hb)).trans (hq cap hcap))
    (fun _ _ _ _ hq hd cap hcap => (length_le_of_suffix (Processor.drain_suffix hd)).trans (hq cap hcap))
    (fun _ _ hq => hq) hs h

theorem exec_keeps_safe {i : Instr} {s t : State} (hs : Safe s) (h : exec i s = .next t) : Safe t := by
  obtain ⟨hinv, hprocessed, herrors, hcap⟩ := hs
  obtain ⟨hprocessed', herrors'⟩ := exec_countersFit ⟨hprocessed, herrors⟩ h
  exact ⟨exec_invariant hinv h, hprocessed', herrors', exec_queue_within_cap hcap h⟩

/-! A step is an operation, a refusal of the word, or a wait. -/

/-- What every operation keeps, and what taking a request and refusing it keep, every step keeps. -/
theorem step_keeps {P : State → Prop} (haccept : ∀ s r rest, P s → P (s.accept r rest))
    (hdone : ∀ s st r, P s → P (s.done st r)) (hexec : ∀ i s t, P s → exec i s = .next t → P t) {s t : State}
    (hs : P s) (h : step s = .next t) : P t := by
  rcases step_cases s with ⟨_, hstep⟩ | ⟨r, rest, e, _, _, hstep⟩ | ⟨r, rest, i, _, _, hstep⟩
  · obtain rfl := next_unique h hstep
    exact hs
  · obtain rfl := next_unique h hstep
    exact hdone _ _ _ (haccept _ _ _ hs)
  · exact hexec i _ _ (haccept _ _ _ hs) (hstep.symm.trans h)

theorem length_le_of_not_avail {fb : FrameBuffer} (hi : BufferInvariant fb) (ha : fb.avail = false) :
    fb.q.length ≤ 129 := by
  obtain ⟨havail, _⟩ := hi
  by_contra hlong
  rw [havail.2 (.inr (by omega))] at ha
  cases ha

/-- A completed `PR_PROCESS` has drained the buffer (45_processor.md R131). -/
theorem prProcess_not_avail {s t : State} (h : exec .prProcess s = .next t)
    (hok : t.response = some ⟨.ok, .nothing⟩) : t.pr.fb.avail = false := by
  rcases execPrProcess_cases s with ⟨_, hexec⟩ | ⟨fs, pr, hprocess, hexec⟩
  · obtain rfl := next_unique h hexec
    cases hok
  · obtain rfl := next_unique h hexec
    obtain ⟨fb, _, hd⟩ := Processor.process_eq_some_iff.1 hprocess
    exact Processor.drain_not_avail hd

/-- Settles O10: the empty buffer has the invariant, each shape of an operation keeps it, it is the equation with the
derived buffer, and a completed drain stops only when nothing is available. -/
theorem bufferInvariantBetweenOperations : Obligations.BufferInvariantBetweenOperations := by
  refine ⟨fun _ => bufferInvariant_empty, fun _ _ _ => exec_invariant, fun fb => (bufferInvariant_iff fb).1,
    fun s t hs h hok => ?_⟩
  have hstop := prProcess_not_avail h hok
  exact ⟨hstop, length_le_of_not_avail (exec_invariant hs h) hstop⟩

/-- Settles O12: every operation keeps the three parts of `Safe`, and the rest of a step touches none of them. -/
theorem stepKeepsSafe : Obligations.StepKeepsSafe :=
  fun _ _ hs h => step_keeps (fun _ _ _ hs => hs) (fun _ _ _ hs => hs) (fun _ _ _ => exec_keeps_safe) hs h

/-- Settles O11. -/
theorem resetIsSafe : Obligations.ResetIsSafe :=
  fun _ => ⟨bufferInvariant_empty, Nat.zero_le _, Nat.zero_le _, fun _ _ => Nat.zero_le _⟩

end Sys2Proof.Machine

/-! Words and the step (30_encoding.md R51 to R53, 92_eei_decisions.md D1): the decoder and the encoder agree, and a step
runs, refuses or waits for the host's next request. -/

namespace Sys2Proof.Machine

open Sys2Proof Sys2Proof.Safety

/- One after the other: each proof elaborated at the same time takes a thread of its own. -/
set_option Elab.async false

/-! The decoder against the encoder. -/

theorem roundTrip (i : Instr) : Laws.RoundTrip.Statement i := by
  cases i <;> exact ⟨rfl, rfl⟩

/-- A command byte is its unit and its function (R51). -/
theorem byte_eq_of_unit_function {b : Byte} {u f : Nat} (hu : cmdUnit b = u) (hf : cmdFunction b = f) :
    b = BitVec.ofNat 8 (16 * u + f) := by
  have hsplit : 16 * u + f = b.toNat := by
    rw [← hu, ← hf]
    exact Nat.div_add_mod b.toNat 16
  rw [hsplit, BitVec.ofNat_toNat, BitVec.setWidth_eq]

/-- Each row of the opcode map is the encoder's byte for the operation it names. -/
theorem encode_of_decodeCmd8 {b : Byte} {i : Instr} (h : decodeCmd8 b = .ok i) : encode i = .cmd8 b := by
  unfold decodeCmd8 at h
  split at h
  case h_30 => cases h
  all_goals
    rename_i hu hf
    cases h
    rw [byte_eq_of_unit_function hu hf]
    rfl

theorem encode_of_decodeTypeByte {b : Byte} {i : Instr} (h : decodeTypeByte b = .ok i) : encode i = .frameType b := by
  unfold decodeTypeByte at h
  split_ifs at h with hattitude hvariometer
  · cases h
    rw [hattitude]
    rfl
  · cases h
    rw [hvariometer]
    rfl

theorem encode_of_decode {w : Word} {i : Instr} (h : decode w = .ok i) : encode i = w := by
  cases w with
  | cmd8 b => exact encode_of_decodeCmd8 h
  | frameType b => exact encode_of_decodeTypeByte h

/-- Settles O1: the rows of the decoder one by one, and the round trip of every operation. -/
theorem decodeAgreesWithEncode : Obligations.DecodeAgreesWithEncode := by
  refine fun w i => ⟨encode_of_decode, ?_⟩
  rintro rfl
  exact (roundTrip i).2

/-- Every function number of a unit has a row in the opcode map. -/
theorem decodeCmd8_of_wellFormed {b : Byte} (h : (Word.cmd8 b).wellFormed = true) : ∃ i, decodeCmd8 b = .ok i := by
  have hfun : cmdFunction b < unitFunctions (cmdUnit b) := of_decide_eq_true h
  unfold decodeCmd8
  generalize cmdUnit b = u at hfun
  generalize cmdFunction b = f at hfun
  unfold unitFunctions at hfun
  split at hfun
  case h_8 => omega
  all_goals interval_cases f <;> exact ⟨_, rfl⟩

theorem decodeTypeByte_of_wellFormed {b : Byte} (h : (Word.frameType b).wellFormed = true) :
    ∃ i, decodeTypeByte b = .ok i := by
  simp only [Word.wellFormed, Bool.or_eq_true, beq_iff_eq] at h
  rcases h with rfl | rfl <;> exact ⟨_, rfl⟩

/-- Settles O2: a decoded word is the encoding of its operation, and each well-formed word is a row of its format. -/
theorem decodeExactlyTheTable : Obligations.DecodeExactlyTheTable := by
  refine fun w => ⟨?_, fun h => ?_⟩
  · rintro ⟨i, hi⟩
    rw [← encode_of_decode hi]
    exact (roundTrip i).1
  · cases w with
    | cmd8 b => exact decodeCmd8_of_wellFormed h
    | frameType b => exact decodeTypeByte_of_wellFormed h

/-- Settles O3: the nine words are evaluated. -/
theorem tableWordsDecode : Obligations.TableWordsDecode :=
  ⟨rfl, rfl, rfl, rfl, rfl, rfl, rfl, rfl, rfl⟩

/-! The step, by the host's list of requests. -/

theorem step_of_no_request {s : State} (h : s.requests = []) : step s = .next s := by
  rw [step, fetch, h]

theorem step_of_decode_ok {s : State} {r : Request} {rest : List Request} {i : Instr} (hreq : s.requests = r :: rest)
    (hdec : decode r.word = .ok i) : step s = exec i (s.accept r rest) := by
  simp only [step, fetch, hreq, hdec]

theorem step_of_decode_error {s : State} {r : Request} {rest : List Request} {e : DecodeReject}
    (hreq : s.requests = r :: rest) (hdec : decode r.word = .error e) : step s = (s.accept r rest).refuse := by
  simp only [step, fetch, hreq, hdec, refuseWord]

/-- Settles O4. -/
theorem stepRunsDecodedRequest : Obligations.StepRunsDecodedRequest :=
  fun _ _ _ _ => step_of_decode_ok

/-- A word outside the table is rejected by the decoder. -/
theorem decode_error_of_not_wellFormed {w : Word} (h : w.wellFormed = false) : ∃ e, decode w = .error e := by
  cases hdec : decode w with
  | error e => exact ⟨e, rfl⟩
  | ok i =>
    rw [(decodeExactlyTheTable w).1 ⟨i, hdec⟩] at h
    cases h

/-- Settles O5: the decoder rejects the byte, and the refusal writes the answer only. -/
theorem unassignedCommandRefused : Obligations.UnassignedCommandRefused := by
  intro s b o rest hreq hwf
  obtain ⟨e, hdec⟩ := decode_error_of_not_wellFormed hwf
  exact step_of_decode_error hreq hdec

/-- Settles O6. -/
theorem idleStepWaits : Obligations.IdleStepWaits :=
  fun _ => step_of_no_request

/-- Settles O7: a step waits, refuses the word or runs an operation, and every operation answers. -/
theorem everyStepAnswersNext : Obligations.EveryStepAnswersNext := by
  intro s
  rcases step_cases s with ⟨_, h⟩ | ⟨_, _, _, _, _, h⟩ | ⟨r, rest, i, _, _, h⟩
  · exact ⟨_, h⟩
  · exact ⟨_, h⟩
  · obtain ⟨_, _, _, _, hexec⟩ := exec_cases i (s.accept r rest)
    exact ⟨_, h.trans hexec⟩

theorem exec_params {i : Instr} {s t : State} (h : exec i s = .next t) : t.params = s.params := by
  obtain ⟨_, _, _, _, hexec⟩ := exec_cases i s
  obtain rfl := next_unique h hexec
  rfl

/-- Settles O13: no operation writes the parameters, and the rest of a step does not either. -/
theorem stepKeepsParameters : Obligations.StepKeepsParameters :=
  fun s _ h => step_keeps (P := fun u => u.params = s.params) (fun _ _ _ hs => hs) (fun _ _ _ hs => hs)
    (fun _ _ _ hs hexec => (exec_params hexec).trans hs) rfl h

/-! Reset, and the operations that find nothing to do after it. -/

/-- Settles O8: reset is the constructor's value, and flush and zeroing leave the same processor from anywhere. -/
theorem resetIsFlushThenResetStatistics : Obligations.ResetIsFlushThenResetStatistics := by
  refine fun p => ⟨rfl, rfl, rfl, rfl, fun s t u ht hu => ?_⟩
  obtain rfl := eq_of_answers_of_exec (prFlush_answers s) ht
  obtain rfl := eq_of_answers_of_exec (prRstat_answers _) hu
  rfl

/-- A drain that completes is the whole of `PR_PROCESS` behind the addition of the chunk. -/
theorem prProcess_answers {s : State} {fb : FrameBuffer} {fs : List Frame} {pr : Processor}
    (hadd : s.pr.fb.add s.params s.ops.chunk = some fb)
    (hdrain : Processor.drain s.params { s.pr with fb := fb } = some (fs, pr)) :
    Answers .prProcess s pr (s.sink ++ fs) .ok .nothing := by
  have hprocess := Processor.process_eq_some_iff.2 ⟨fb, hadd, hdrain⟩
  rcases execPrProcess_cases s with ⟨hnone, _⟩ | ⟨fs', pr', hsome, hexec⟩
  · rw [hprocess] at hnone
    cases hnone
  · rw [hprocess] at hsome
    cases hsome
    exact hexec

/-- `PR_PROCESS` of a chunk that makes nothing available only adds the chunk. -/
theorem prProcess_answers_of_not_avail {s : State} {fb : FrameBuffer}
    (hadd : s.pr.fb.add s.params s.ops.chunk = some fb) (hstop : fb.avail = false) :
    Answers .prProcess s { s.pr with fb := fb } s.sink .ok .nothing := by
  have h := prProcess_answers hadd (Processor.drain_of_not_avail hstop)
  rwa [List.append_nil] at h

/-- A chunk with room in an empty buffer: the queue is the chunk, and it alone determines the buffer. -/
theorem FrameBuffer.add_empty {p : Params} {c : List Byte} (hroom : ∀ cap, p.qCap = some cap → c.length ≤ cap) :
    FrameBuffer.empty.add p c = some (derivedBuffer c) := by
  by_cases hc : c = []
  · subst hc
    rfl
  · rw [FrameBuffer.add_of_fits hc (by simpa using hroom), FrameBuffer.derive_of_size_zero rfl]
    rfl

/-- Settles O9: every operation on the empty buffer is evaluated; the nine bytes declare no size and stay queued. -/
theorem firstOperationsAfterReset : Obligations.FirstOperationsAfterReset := by
  rintro p o s rfl
  refine ⟨rfl, rfl, rfl, rfl, rfl, rfl, rfl, fun hempty => ⟨?_, ?_⟩, fun hchunk hroom => ?_⟩
  · exact prProcess_answers_of_not_avail (fb := FrameBuffer.empty) (by rw [hempty]; rfl) rfl
  · exact fbAdd_answers_of_add_eq_some (fb := FrameBuffer.empty) (by rw [hempty]; rfl)
  · have hadd : FrameBuffer.empty.add p o.chunk = some (derivedBuffer o.chunk) :=
      FrameBuffer.add_empty (by simpa [hchunk] using hroom)
    have hheld : derivedBuffer o.chunk = ⟨o.chunk, 0, false⟩ := by
      rw [hchunk]
      rfl
    rw [hheld] at hadd
    exact prProcess_answers_of_not_avail hadd rfl

end Sys2Proof.Machine

/-! The packed channels (41_channel_codec.md R73 to R75): both loops of the Channel Codec read and write one number, the
176-bit stream, whose digits in base 2^11 are the channels and whose digits in base 2^8 are the bytes. -/

namespace Sys2Proof.Machine

open Sys2Proof Sys2Proof.Safety

/- One after the other: each proof elaborated at the same time takes a thread of its own. -/
set_option Elab.async false

/-! A number by its digits in base `2^w`, least significant first. -/

/-- Digit `i` of a number is a shift and a mask. -/
theorem ofDigits_shiftRight_mod (w : Nat) : ∀ (ds : List Nat), (∀ d ∈ ds, d < 2 ^ w) → ∀ i,
    (Nat.ofDigits (2 ^ w) ds >>> (w * i)) % 2 ^ w = ds.getD i 0
  | [], _, i => by simp
  | d :: ds, hds, 0 => by
    simpa [Nat.ofDigits_cons] using Nat.mod_eq_of_lt (hds d List.mem_cons_self)
  | d :: ds, hds, i + 1 => by
    have htail : Nat.ofDigits (2 ^ w) (d :: ds) >>> w = Nat.ofDigits (2 ^ w) ds := by
      rw [Nat.ofDigits_cons, Nat.shiftRight_eq_div_pow, Nat.add_mul_div_left _ _ (by positivity),
        Nat.div_eq_of_lt (hds d List.mem_cons_self), Nat.zero_add]
    rw [Nat.mul_add, Nat.mul_one, Nat.add_comm, Nat.shiftRight_add, htail, List.getD_cons_succ]
    exact ofDigits_shiftRight_mod w ds (fun e he => hds e (List.mem_cons_of_mem _ he)) i

/-- The sum of the spec's closed forms (R75) is the number with these digits. -/
theorem sum_range_getD_eq_ofDigits (w : Nat) (ds : List Nat) :
    ∑ i ∈ Finset.range ds.length, ds.getD i 0 * 2 ^ (w * i) = Nat.ofDigits (2 ^ w) ds := by
  induction ds with
  | nil => rfl
  | cons d ds ih =>
    rw [List.length_cons, Finset.sum_range_succ', Nat.ofDigits_cons, ← ih, Finset.mul_sum, add_comm]
    congr 1
    · simp
    · refine Finset.sum_congr rfl fun i _ => ?_
      rw [List.getD_cons_succ, Nat.mul_add, Nat.mul_one, pow_add]
      ring

theorem sum_range_map_eq_ofDigits {α : Type} {f : α → Nat} {d : α} (hd : f d = 0) (w : Nat) {xs : List α} {n : Nat}
    (hlen : xs.length = n) :
    ∑ i ∈ Finset.range n, f (xs.getD i d) * 2 ^ (w * i) = Nat.ofDigits (2 ^ w) (xs.map f) := by
  rw [← sum_range_getD_eq_ofDigits, List.length_map, hlen]
  refine Finset.sum_congr rfl fun i _ => ?_
  rw [← List.getD_map xs d f, hd]

/-! The stream as the number of its bytes and as the number of its channels. -/

/-- The number a byte sequence stands for, least significant byte first (R75). -/
def byteStream (bs : List Byte) : Nat := Nat.ofDigits (2 ^ 8) (bs.map BitVec.toNat)

/-- The number a sequence of channels stands for, 11 bits each, the first one least significant (R75). -/
def channelStream (cs : List Int) : Nat := Nat.ofDigits (2 ^ 11) (cs.map mask11)

theorem byteStream_cons (b : Byte) (bs : List Byte) : byteStream (b :: bs) = b.toNat + 2 ^ 8 * byteStream bs :=
  Nat.ofDigits_cons

theorem channelStream_cons (c : Int) (cs : List Int) :
    channelStream (c :: cs) = mask11 c + 2 ^ 11 * channelStream cs :=
  Nat.ofDigits_cons

theorem byteStream_append (bs bs' : List Byte) :
    byteStream (bs ++ bs') = byteStream bs + 2 ^ (8 * bs.length) * byteStream bs' := by
  rw [byteStream, List.map_append, Nat.ofDigits_append, List.length_map, ← pow_mul]
  rfl

theorem toNat_mem_lt {bs : List Byte} {d : Nat} (h : d ∈ bs.map BitVec.toNat) : d < 2 ^ 8 := by
  obtain ⟨b, _, rfl⟩ := List.mem_map.1 h
  exact b.isLt

theorem byteStream_lt (bs : List Byte) : byteStream bs < 2 ^ (8 * bs.length) := by
  have h := Nat.ofDigits_lt_base_pow_length (l := bs.map BitVec.toNat) (by decide : 1 < 2 ^ 8) fun _ => toNat_mem_lt
  rwa [List.length_map, ← pow_mul] at h

/-- Byte sequences of one length are told apart by their numbers. -/
theorem eq_of_byteStream_eq {bs bs' : List Byte} (hlen : bs.length = bs'.length) (h : byteStream bs = byteStream bs') :
    bs = bs' := by
  have hdigits := Nat.ofDigits_inj_of_len_eq (by decide : 1 < 2 ^ 8) (by simpa using hlen) (fun _ => toNat_mem_lt)
    (fun _ => toNat_mem_lt) h
  exact List.map_injective_iff.2 (fun _ _ => BitVec.eq_of_toNat_eq) hdigits

/-- Byte `k` of the sequence is bits 8k..8k+7 of its number. -/
theorem toNat_getD_eq_byteStream (bs : List Byte) (k : Nat) :
    (bs.getD k 0).toNat = (byteStream bs >>> (8 * k)) % 256 := by
  have h := ofDigits_shiftRight_mod 8 (bs.map BitVec.toNat) (fun _ => toNat_mem_lt) k
  exact (List.getD_map bs 0 BitVec.toNat).symm.trans h.symm

/-- The byte sum of R75 over a 22-byte image. -/
theorem byteSum_eq_byteStream {pk : List Byte} (hlen : pk.length = 22) : byteSum pk = byteStream pk :=
  sum_range_map_eq_ofDigits (d := (0 : Byte)) BitVec.toNat_zero 8 hlen

theorem mask11_lt (c : Int) : mask11 c < 2 ^ 11 := by
  have hmod := Int.emod_lt_of_pos c (by decide : (0 : Int) < 2 ^ 11)
  have hnonneg := Int.emod_nonneg c (by decide : (2 ^ 11 : Int) ≠ 0)
  rw [mask11, show Config.chW = 11 from rfl]
  omega

theorem natCast_mask11 (c : Int) : (mask11 c : Int) = c % 2048 :=
  Int.toNat_of_nonneg (Int.emod_nonneg c (by decide))

theorem mask11_natCast (n : Nat) : mask11 n = n % 2048 := by
  have h := natCast_mask11 n
  omega

/-- The channel sum of R75 over sixteen channels. -/
theorem channelSum_eq_channelStream {ch : List Int} (hlen : ch.length = 16) : channelSum ch = channelStream ch :=
  sum_range_map_eq_ofDigits (f := mask11) (d := 0) rfl 11 hlen

/-! Packing: the bytes written are the channels' number, behind the bits that wait in the accumulator. -/

theorem length_emitBytes (n acc : Nat) : (emitBytes n acc).length = n := by
  induction n generalizing acc with
  | zero => rfl
  | succ n ih => exact congrArg (· + 1) (ih _)

theorem byteStream_emitBytes (n acc : Nat) : byteStream (emitBytes n acc) = acc % 2 ^ (8 * n) := by
  induction n generalizing acc with
  | zero => exact (Nat.mod_one acc).symm
  | succ n ih =>
    rw [emitBytes, byteStream_cons, ih, BitVec.toNat_ofNat, Nat.shiftRight_eq_div_pow, ← Nat.mod_mul, ← pow_add,
      Nat.mul_add, Nat.mul_one, Nat.add_comm]

/-- Joining a value above the waiting bits is an addition. -/
theorem or_shiftLeft_eq_add {acc n : Nat} (h : acc < 2 ^ n) (x : Nat) : acc ||| (x <<< n) = acc + 2 ^ n * x := by
  rw [Nat.or_comm, ← Nat.shiftLeft_add_eq_or_of_lt h, Nat.shiftLeft_eq]
  ring

theorem add_two_pow_mul_lt {acc x n w : Nat} (hacc : acc < 2 ^ n) (hx : x < 2 ^ w) :
    acc + 2 ^ n * x < 2 ^ (n + w) := by
  calc acc + 2 ^ n * x < 2 ^ n + 2 ^ n * x := by omega
    _ = 2 ^ n * (x + 1) := by ring
    _ ≤ 2 ^ n * 2 ^ w := Nat.mul_le_mul_left _ hx
    _ = 2 ^ (n + w) := (pow_add _ _ _).symm

theorem shiftRight_lt_two_pow {acc n k : Nat} (h : acc < 2 ^ n) (hk : k ≤ n) : acc >>> k < 2 ^ (n - k) := by
  rw [Nat.shiftRight_eq_div_pow]
  refine Nat.div_lt_of_lt_mul ?_
  rwa [← pow_add, Nat.add_sub_cancel' hk]

theorem length_packLoop (cs : List Int) : ∀ acc nbits, nbits < 8 →
    (packLoop cs acc nbits).length = (11 * cs.length + nbits + 7) / 8 := by
  induction cs with
  | nil =>
    intro acc nbits hn
    simp only [packLoop, List.length_nil]
    split_ifs
    · simp only [List.length_singleton]
      omega
    · simp only [List.length_nil]
      omega
  | cons c cs ih =>
    intro acc nbits hn
    simp only [packLoop, List.length_append, length_emitBytes, List.length_cons, show Config.chW = 11 from rfl]
    rw [ih _ _ (Nat.mod_lt _ (by decide))]
    omega

theorem byteStream_packLoop (cs : List Int) : ∀ acc nbits, nbits < 8 → acc < 2 ^ nbits →
    byteStream (packLoop cs acc nbits) = acc + 2 ^ nbits * channelStream cs := by
  induction cs with
  | nil =>
    intro acc nbits hn hacc
    have hzero : channelStream [] = 0 := rfl
    simp only [packLoop, hzero, Nat.mul_zero, Nat.add_zero]
    split_ifs with hpos
    · have hbyte : acc < 2 ^ 8 := hacc.trans_le (Nat.pow_le_pow_right (by decide) (by omega))
      rw [byteStream_cons, BitVec.toNat_ofNat, Nat.mod_eq_of_lt hbyte]
      rfl
    · obtain rfl : nbits = 0 := by omega
      obtain rfl : acc = 0 := by omega
      rfl
  | cons c cs ih =>
    intro acc nbits hn hacc
    simp only [packLoop, show Config.chW = 11 from rfl, or_shiftLeft_eq_add hacc]
    generalize hacc' : acc + 2 ^ nbits * mask11 c = acc'
    have hlt : acc' < 2 ^ (nbits + 11) := hacc' ▸ add_two_pow_mul_lt hacc (mask11_lt c)
    have hrest := shiftRight_lt_two_pow hlt (Nat.mul_div_le (nbits + 11) 8)
    have hmod : nbits + 11 - 8 * ((nbits + 11) / 8) = (nbits + 11) % 8 := by omega
    have hpow : 2 ^ (nbits + 11) = 2 ^ (8 * ((nbits + 11) / 8)) * 2 ^ ((nbits + 11) % 8) := by
      rw [← pow_add, Nat.div_add_mod]
    rw [hmod] at hrest
    rw [byteStream_append, byteStream_emitBytes, length_emitBytes, ih _ _ (Nat.mod_lt _ (by decide)) hrest,
      Nat.mul_add, ← Nat.add_assoc, Nat.shiftRight_eq_div_pow, Nat.mod_add_div, ← Nat.mul_assoc, ← hpow, ← hacc',
      channelStream_cons, pow_add]
    ring

theorem length_chPack {ch : List Int} (hlen : ch.length = 16) : (chPack ch).length = 22 := by
  rw [chPack, length_packLoop ch 0 0 (by decide), hlen]

theorem byteStream_chPack (ch : List Int) : byteStream (chPack ch) = channelStream ch := by
  rw [chPack, byteStream_packLoop ch 0 0 (by decide) (by decide)]
  simp

/-- Byte `k` of a packed image by the closed form of R75. -/
theorem toNat_getD_chPack {ch : List Int} (hlen : ch.length = 16) (k : Nat) :
    ((chPack ch).getD k 0).toNat = (channelSum ch >>> (8 * k)) % 256 := by
  rw [toNat_getD_eq_byteStream, byteStream_chPack, channelSum_eq_channelStream hlen]

/-! Unpacking: the values read are the 11-bit fields of the number of the bytes left, behind the waiting bits. -/

/-- The first `n` 11-bit fields of a number, least significant first. -/
def fields (n N : Nat) : List Int := (List.range n).map fun i => (((N >>> (11 * i)) % 2048 : Nat) : Int)

theorem length_fields (n N : Nat) : (fields n N).length = n := by
  simp [fields]

theorem getElem?_fields {n i : Nat} (h : i < n) (N : Nat) :
    (fields n N)[i]? = some (((N >>> (11 * i)) % 2048 : Nat) : Int) := by
  simp [fields, h]

theorem mem_fields {n N : Nat} {c : Int} (h : c ∈ fields n N) : 0 ≤ c ∧ c ≤ 2047 := by
  obtain ⟨i, _, rfl⟩ := List.mem_map.1 h
  omega

theorem fields_succ (n N : Nat) : fields (n + 1) N = ((N % 2048 : Nat) : Int) :: fields n (N >>> 11) := by
  rw [fields, List.range_succ_eq_map, List.map_cons, List.map_map]
  congr 1
  refine List.map_congr_left fun i _ => ?_
  rw [Function.comp_apply, ← Nat.shiftRight_add, Nat.mul_succ, Nat.add_comm]

theorem fillBytes_eq (m : Nat) : ∀ (pk : List Byte) (acc nbits : Nat), m ≤ pk.length → acc < 2 ^ nbits →
    fillBytes m pk acc nbits = (acc + 2 ^ nbits * byteStream (pk.take m), nbits + 8 * m, pk.drop m) := by
  induction m with
  | zero =>
    intro pk acc nbits _ _
    have hzero : byteStream [] = 0 := rfl
    simp [fillBytes, hzero]
  | succ m ih =>
    intro pk acc nbits hm hacc
    cases pk with
    | nil => simp at hm
    | cons b pk =>
      have hlt : acc + 2 ^ nbits * b.toNat < 2 ^ (nbits + 8) := add_two_pow_mul_lt hacc b.isLt
      rw [fillBytes, or_shiftLeft_eq_add hacc, ih pk _ _ (by simpa using hm) hlt, List.take_succ_cons,
        byteStream_cons, List.drop_succ_cons, pow_add]
      congr 1
      · ring
      · congr 1
        omega

/-- The low field of a number whose low bits are `x`. -/
theorem add_two_pow_mul_mod_2048 {n : Nat} (hn : 11 ≤ n) (x y : Nat) : (x + 2 ^ n * y) % 2048 = x % 2048 := by
  have hpow : 2 ^ n * y = 2048 * (2 ^ (n - 11) * y) := by
    rw [← Nat.mul_assoc, show (2048 : Nat) = 2 ^ 11 from rfl, ← pow_add, Nat.add_sub_cancel' hn]
  rw [hpow, Nat.add_mul_mod_self_left]

/-- What is left of such a number behind its low field. -/
theorem add_two_pow_mul_shiftRight_11 {n : Nat} (hn : 11 ≤ n) (x y : Nat) :
    (x + 2 ^ n * y) >>> 11 = x >>> 11 + 2 ^ (n - 11) * y := by
  have hpow : 2 ^ n * y = 2 ^ 11 * (2 ^ (n - 11) * y) := by
    rw [← Nat.mul_assoc, ← pow_add, Nat.add_sub_cancel' hn]
  rw [Nat.shiftRight_eq_div_pow, hpow, Nat.add_mul_div_left _ _ (by positivity), Nat.shiftRight_eq_div_pow]

theorem unpackLoop_eq_fields (n : Nat) : ∀ (pk : List Byte) (acc nbits : Nat), nbits < 8 → acc < 2 ^ nbits →
    11 * n ≤ nbits + 8 * pk.length → unpackLoop n pk acc nbits = fields n (acc + 2 ^ nbits * byteStream pk) := by
  induction n with
  | zero => intro pk acc nbits _ _ _; rfl
  | succ n ih =>
    intro pk acc nbits hn hacc hlen
    simp only [unpackLoop, show Config.chW = 11 from rfl]
    generalize hm : (11 - nbits + 7) / 8 = m
    have hmlen : m ≤ pk.length := by omega
    have hread : 11 ≤ nbits + 8 * m := by omega
    rw [fillBytes_eq m pk acc nbits hmlen hacc]
    generalize hacc' : acc + 2 ^ nbits * byteStream (pk.take m) = acc'
    have htake : (pk.take m).length = m := List.length_take_of_le hmlen
    have hlt : acc' < 2 ^ (nbits + 8 * m) := by
      have hbytes := byteStream_lt (pk.take m)
      rw [htake] at hbytes
      exact hacc' ▸ add_two_pow_mul_lt hacc hbytes
    have hwhole : acc + 2 ^ nbits * byteStream pk = acc' + 2 ^ (nbits + 8 * m) * byteStream (pk.drop m) := by
      conv_lhs => rw [← List.take_append_drop m pk]
      rw [byteStream_append, htake, ← hacc', pow_add]
      ring
    rw [hwhole, fields_succ, add_two_pow_mul_mod_2048 hread, add_two_pow_mul_shiftRight_11 hread,
      ih _ _ _ (by omega) (shiftRight_lt_two_pow hlt hread) (by simp only [List.length_drop]; omega)]
    rfl

theorem chUnpack_eq_fields {pk : List Byte} (hlen : pk.length = 22) : chUnpack pk = fields 16 (byteStream pk) := by
  rw [chUnpack, show Config.nCh = 16 from rfl, unpackLoop_eq_fields 16 pk 0 0 (by decide) (by decide) (by omega)]
  simp

/-! Each undoes the other. -/

theorem fields_channelStream (cs : List Int) : fields cs.length (channelStream cs) = cs.map (· % 2048) := by
  induction cs with
  | nil => rfl
  | cons c cs ih =>
    have hlow : (mask11 c + 2 ^ 11 * channelStream cs) % 2048 = mask11 c := by
      rw [add_two_pow_mul_mod_2048 le_rfl]
      exact Nat.mod_eq_of_lt (mask11_lt c)
    have hhigh : (mask11 c + 2 ^ 11 * channelStream cs) >>> 11 = channelStream cs := by
      rw [add_two_pow_mul_shiftRight_11 le_rfl, Nat.shiftRight_eq_div_pow, Nat.div_eq_of_lt (mask11_lt c)]
      simp
    rw [List.length_cons, channelStream_cons, fields_succ, hlow, hhigh, ih, List.map_cons, natCast_mask11]

theorem channelStream_fields (n N : Nat) : channelStream (fields n N) = N % 2 ^ (11 * n) := by
  induction n generalizing N with
  | zero => exact (Nat.mod_one N).symm
  | succ n ih =>
    rw [fields_succ, channelStream_cons, ih, mask11_natCast, Nat.mod_mod, Nat.shiftRight_eq_div_pow,
      show (2048 : Nat) = 2 ^ 11 from rfl, ← Nat.mod_mul, ← pow_add, Nat.mul_succ, Nat.add_comm]

theorem chUnpack_chPack {ch : List Int} (hlen : ch.length = 16) : chUnpack (chPack ch) = ch.map (· % 2048) := by
  rw [chUnpack_eq_fields (length_chPack hlen), byteStream_chPack, ← hlen, fields_channelStream]

theorem chPack_chUnpack {pk : List Byte} (hlen : pk.length = 22) : chPack (chUnpack pk) = pk := by
  have hlen' : (chUnpack pk).length = 16 := by rw [chUnpack_eq_fields hlen, length_fields]
  have hlt : byteStream pk < 2 ^ (11 * 16) := by
    have h := byteStream_lt pk
    rwa [hlen] at h
  refine eq_of_byteStream_eq ((length_chPack hlen').trans hlen.symm) ?_
  rw [byteStream_chPack, chUnpack_eq_fields hlen, channelStream_fields, Nat.mod_eq_of_lt hlt]

/-- Reduction mod 2048 changes no value of 0..2047. -/
theorem map_mod_2048_of_mem_range {ch : List Int} (h : ∀ c ∈ ch, 0 ≤ c ∧ c ≤ 2047) : ch.map (· % 2048) = ch := by
  refine (List.map_congr_left fun c hc => ?_).trans (List.map_id ch)
  obtain ⟨h0, h1⟩ := h c hc
  simp only [id]
  omega

/-- Settles O25: both loops are given by the one number of the stream, whose digits they write and read. -/
theorem packUnpackInverse : Obligations.PackUnpackInverse := by
  refine ⟨fun ch hlen => ⟨length_chPack hlen, fun k _ => toNat_getD_chPack hlen k, chUnpack_chPack hlen, fun hrange => ?_⟩,
    fun pk hlen => ⟨?_, fun i hi => ?_, fun c hc => ?_, chPack_chUnpack hlen⟩⟩
  · rw [chUnpack_chPack hlen, map_mod_2048_of_mem_range hrange]
  · rw [chUnpack_eq_fields hlen, length_fields]
  · rw [chUnpack_eq_fields hlen, getElem?_fields hi, byteSum_eq_byteStream hlen]
  · rw [chUnpack_eq_fields hlen] at hc
    exact mem_fields hc

/-! The two operations, behind their ports. -/

/-- An operation behind its port checks is refused when they fail. -/
theorem isRefused_of_guarded {i : Instr} {s : State} {fits : Bool} {body : Except ErrorKind Result}
    (hexec : exec i s = s.guarded fits body) (hfits : fits = false) : IsRefused i s := by
  rw [hfits, State.guarded_false] at hexec
  exact hexec

/-- An operation behind its port checks answers as its body does when they pass. -/
theorem exec_of_guarded {i : Instr} {s : State} {fits : Bool} {body : Except ErrorKind Result}
    (hexec : exec i s = s.guarded fits body) (hfits : fits = true) : exec i s = s.answer body := by
  rwa [hfits, State.guarded_true] at hexec

theorem chPackFits_iff (p : Params) (o : Operands) :
    chPackFits p o = true ↔ o.ch.length = 16 ∧ ∀ c ∈ o.ch, isSigned p.valW c := by
  simp only [chPackFits, Bool.and_eq_true, decide_eq_true_eq, List.all_eq_true, fitsSigned_iff,
    show Config.nCh = 16 from rfl]

theorem chPackFits_false_iff (p : Params) (o : Operands) :
    chPackFits p o = false ↔ ¬ (o.ch.length = 16 ∧ ∀ c ∈ o.ch, isSigned p.valW c) := by
  rw [← chPackFits_iff, Bool.not_eq_true]

theorem exec_chPack (s : State) :
    exec .chPack s = s.guarded (chPackFits s.params s.ops) (.ok (.bytes (chPack s.ops.ch))) := rfl

theorem exec_chUnpack (s : State) :
    exec .chUnpack s = s.guarded (decide (s.ops.pk.length = 22)) (.ok (.ints (chUnpack s.ops.pk))) := rfl

/-- A byte of a list by its number. -/
theorem getElem?_eq_ofNat_of_toNat_getD {bs : List Byte} {k n : Nat} (hk : k < bs.length)
    (h : (bs.getD k 0).toNat = n % 256) : bs[k]? = some (BitVec.ofNat 8 n) := by
  rw [List.getD_eq_getElem _ _ hk] at h
  rw [List.getElem?_eq_getElem hk]
  exact congrArg some (BitVec.eq_of_toNat_eq (h.trans (BitVec.toNat_ofNat n 8).symm))

/-- Settles O23: the port checks decide, and the image is the stream of R75. -/
theorem chPackResult : Obligations.ChPackResult := by
  refine fun s => ⟨fun hlen hport => ⟨chPack s.ops.ch, ?_, length_chPack hlen, fun k hk => ?_⟩, fun hlen => ?_⟩
  · exact exec_of_guarded (exec_chPack s) ((chPackFits_iff _ _).2 ⟨hlen, hport⟩)
  · exact getElem?_eq_ofNat_of_toNat_getD (by rwa [length_chPack hlen]) (toNat_getD_chPack hlen k)
  · exact isRefused_of_guarded (exec_chPack s) ((chPackFits_false_iff _ _).2 fun h => hlen h.1)

/-- Settles O24: the length decides, and the values are the fields of the image's number. -/
theorem chUnpackResult : Obligations.ChUnpackResult := by
  refine fun s => ⟨fun hlen => ⟨chUnpack s.ops.pk, ?_, ?_, fun i hi => ?_⟩, fun hlen => ?_⟩
  · exact exec_of_guarded (exec_chUnpack s) (decide_eq_true hlen)
  · rw [chUnpack_eq_fields hlen, length_fields]
  · rw [chUnpack_eq_fields hlen, getElem?_fields hi, byteSum_eq_byteStream hlen]
  · exact isRefused_of_guarded (exec_chUnpack s) (decide_eq_false hlen)

end Sys2Proof.Machine

/-! The checksum as a linear map (40_checksum.md R68, R71): one iteration distributes over XOR, and from that come the
hardware forms of the byte step and the algebraic laws. -/

namespace Sys2Proof.Machine

open Sys2Proof Sys2Proof.Safety

/- One after the other: each proof elaborated at the same time takes a thread of its own. -/
set_option Elab.async false

/-! One iteration, eight of them, and the byte step distribute over XOR. -/

theorem shiftLeft_one_xor (x y : Byte) : (x ^^^ y) <<< 1 = (x <<< 1) ^^^ (y <<< 1) :=
  BitVec.shiftLeft_xor_distrib x y 1

theorem xor_xor_xor_swap (a b c d : Byte) : (a ^^^ b) ^^^ (c ^^^ d) = (a ^^^ c) ^^^ (b ^^^ d) := by ac_rfl

theorem ite_xor (poly : Byte) (c d : Bool) :
    (if (c ^^ d) then poly else 0) = (if c then poly else 0) ^^^ (if d then poly else 0) := by
  cases c <;> cases d <;> simp

/-- One iteration without its branch: the polynomial is XORed in under the top bit. -/
theorem crcShift_eq_xor (poly x : Byte) : crcShift poly x = (x <<< 1) ^^^ (if x.msb then poly else 0) := by
  unfold crcShift
  split_ifs
  · rfl
  · exact (BitVec.xor_zero).symm

/-- One iteration on a XOR: its top bit is the XOR of the two top bits. -/
theorem crcShift_xor (poly x y : Byte) : crcShift poly (x ^^^ y) = crcShift poly x ^^^ crcShift poly y := by
  rw [crcShift_eq_xor, crcShift_eq_xor, crcShift_eq_xor, BitVec.msb_xor, shiftLeft_one_xor, ite_xor, xor_xor_xor_swap]

theorem crcShift_zero (poly : Byte) : crcShift poly 0 = 0 := rfl

theorem crcShifts_xor (poly : Byte) (n : Nat) : ∀ x y : Byte,
    crcShifts poly n (x ^^^ y) = crcShifts poly n x ^^^ crcShifts poly n y := by
  induction n with
  | zero => exact fun _ _ => rfl
  | succ n ih =>
    intro x y
    rw [crcShifts, crcShift_xor, ih]
    rfl

theorem crcShifts_zero (poly : Byte) (n : Nat) : crcShifts poly n 0 = 0 := by
  induction n with
  | zero => rfl
  | succ n ih => exact ih

theorem crcStep_xor (poly a a' b b' : Byte) :
    crcStep poly (a ^^^ a') (b ^^^ b') = crcStep poly a b ^^^ crcStep poly a' b' := by
  rw [crcStep, crcStep, crcStep, ← crcShifts_xor]
  exact congrArg _ (xor_xor_xor_swap _ _ _ _)

theorem crcStep_self (poly a : Byte) : crcStep poly a a = 0 := by
  rw [crcStep, BitVec.xor_self]
  exact crcShifts_zero poly 8

/-! The hardware forms. -/

/-- One data bit without its branch. -/
theorem serialBit_eq_xor (poly acc : Byte) (d : Bool) :
    serialBit poly acc d = (acc <<< 1) ^^^ (if (acc.msb ^^ d) then poly else 0) := by
  rw [BitVec.msb_eq_getLsbD_last]
  unfold serialBit
  split_ifs
  · rfl
  · exact (BitVec.xor_zero).symm

/-- Feeding one data bit is an iteration with the rest of the data still to be XORed in: only the top data bit has met
the accumulator's. -/
theorem crcShift_xor_eq_serialBit (poly acc y : Byte) :
    crcShift poly (acc ^^^ y) = serialBit poly acc y.msb ^^^ (y <<< 1) := by
  rw [crcShift_eq_xor, serialBit_eq_xor, BitVec.msb_xor, shiftLeft_one_xor]
  ac_rfl

theorem msb_shiftLeft_eq_getLsbD (b : Byte) {k : Nat} (hk : k < 8) : (b <<< k).msb = b.getLsbD (7 - k) := by
  rw [BitVec.msb_eq_getLsbD_last, BitVec.getLsbD_shiftLeft]
  simp only [show (8 - 1 < 8) from by decide, decide_true, Bool.true_and, show ¬ (8 - 1 < k) from by omega,
    decide_false, Bool.not_false]

/-- One iteration after `k` data bits. -/
theorem crcShift_xor_shiftLeft (poly acc b : Byte) {k : Nat} (hk : k < 8) :
    crcShift poly (acc ^^^ (b <<< k)) = serialBit poly acc (b.getLsbD (7 - k)) ^^^ (b <<< (k + 1)) := by
  rw [crcShift_xor_eq_serialBit, msb_shiftLeft_eq_getLsbD b hk, BitVec.shiftLeft_add]

/-- The bit-serial form: after eight iterations no data is left to be XORed in. -/
theorem serialByte_eq_crcStep (poly acc b : Byte) : serialByte poly acc b = crcStep poly acc b := by
  have hstart : acc ^^^ b = acc ^^^ (b <<< 0) := by rw [BitVec.shiftLeft_zero]
  have hend : b <<< 8 = 0#8 := BitVec.shiftLeft_eq_zero le_rfl
  simp only [crcStep, crcShifts]
  rw [hstart, crcShift_xor_shiftLeft _ _ _ (by decide), crcShift_xor_shiftLeft _ _ _ (by decide),
    crcShift_xor_shiftLeft _ _ _ (by decide), crcShift_xor_shiftLeft _ _ _ (by decide),
    crcShift_xor_shiftLeft _ _ _ (by decide), crcShift_xor_shiftLeft _ _ _ (by decide),
    crcShift_xor_shiftLeft _ _ _ (by decide), crcShift_xor_shiftLeft _ _ _ (by decide), hend, BitVec.xor_zero]
  rfl

/-- The entry of `f` at the power of two `k`, where bit `k` of `x` selects it. -/
def selectedEntry (f : Byte → Byte) (x : Byte) (k : Nat) : Byte := if x.getLsbD k then f (1 <<< k) else 0

/-- The XOR of the entries of `f` that the bits `ks` of `x` select. -/
def selectedXor (f : Byte → Byte) (x : Byte) (ks : List Nat) (init : Byte) : Byte :=
  ks.foldl (fun a k => a ^^^ selectedEntry f x k) init

/-- An additive map is the XOR of its values at the selected powers of two. -/
theorem map_selectedXor {f : Byte → Byte} (hf : ∀ x y, f (x ^^^ y) = f x ^^^ f y) (hzero : f 0 = 0) (x : Byte)
    (ks : List Nat) : ∀ init, f (selectedXor id x ks init) = selectedXor f x ks (f init) := by
  have hentry : ∀ k, f (selectedEntry id x k) = selectedEntry f x k := fun k => by
    unfold selectedEntry
    split_ifs
    · rfl
    · exact hzero
  induction ks with
  | nil => exact fun _ => rfl
  | cons k ks ih =>
    intro init
    simp only [selectedXor, List.foldl_cons] at ih ⊢
    rw [ih, hf, hentry]

/-- A byte is the XOR of its powers of two. -/
theorem selectedXor_id (x : Byte) : selectedXor id x [0, 1, 2, 3, 4, 5, 6, 7] 0 = x := by
  revert x
  decide +kernel

/-- The table of a polynomial from its entries at the powers of two (R71). -/
theorem crcStep_zero_eq_selectedXor (poly x : Byte) :
    crcStep poly 0 x = selectedXor (crcStep poly 0) x [0, 1, 2, 3, 4, 5, 6, 7] 0 := by
  have hadd : ∀ y z, crcStep poly 0 (y ^^^ z) = crcStep poly 0 y ^^^ crcStep poly 0 z := fun y z =>
    crcStep_xor poly 0 0 y z
  have h := map_selectedXor hadd (crcStep_self poly 0) x [0, 1, 2, 3, 4, 5, 6, 7] 0
  rwa [selectedXor_id, crcStep_self] at h

/-- The entries of the table of `0xD5` at the powers of two. -/
theorem crcStep_D5_powers : [0, 1, 2, 3, 4, 5, 6, 7].map (fun k => crcStep 0xD5 0 (1 <<< k)) =
    [0xD5, 0x7F, 0xFE, 0x29, 0x52, 0xA4, 0x9D, 0xEF] := by
  decide +kernel

/-- The entries of the table of `0xBA` at the powers of two. -/
theorem crcStep_BA_powers : [0, 1, 2, 3, 4, 5, 6, 7].map (fun k => crcStep 0xBA 0 (1 <<< k)) =
    [0xBA, 0xCE, 0x26, 0x4C, 0x98, 0x8A, 0xAE, 0xE6] := by
  decide +kernel

/-- Settles O21: the bit-serial form by its eight bits, the table by linearity, and the equations of the two polynomials
on every byte. -/
theorem crcHardwareForms : Obligations.CrcHardwareForms := by
  refine ⟨serialByte_eq_crcStep, ?_, ?_, crcStep_zero_eq_selectedXor, crcStep_D5_powers, crcStep_BA_powers⟩
  · rintro x _ rfl
    revert x
    decide +kernel
  · rintro x _ rfl
    revert x
    decide +kernel

/-! The laws of the fold. -/

/-- The fold from any accumulator, XORed. -/
theorem foldl_crcStep_xor (poly : Byte) : ∀ (x y : List Byte) (a a' : Byte), x.length = y.length →
    (List.zipWith (· ^^^ ·) x y).foldl (crcStep poly) (a ^^^ a') =
      x.foldl (crcStep poly) a ^^^ y.foldl (crcStep poly) a'
  | [], [], _, _, _ => rfl
  | b :: x, b' :: y, a, a', h => by
    rw [List.zipWith_cons_cons, List.foldl_cons, crcStep_xor]
    exact foldl_crcStep_xor poly x y _ _ (Nat.succ.inj h)

theorem crcFold_xor (poly : Byte) {x y : List Byte} (h : x.length = y.length) :
    crcFold poly (List.zipWith (· ^^^ ·) x y) = crcFold poly x ^^^ crcFold poly y :=
  foldl_crcStep_xor poly x y 0 0 h

theorem crcFold_append (poly : Byte) (x y : List Byte) :
    crcFold poly (x ++ y) = y.foldl (crcStep poly) (crcFold poly x) :=
  List.foldl_append

theorem crcFold_replicate_zero (poly : Byte) (n : Nat) : crcFold poly (List.replicate n 0) = 0 := by
  induction n with
  | zero => rfl
  | succ n ih => rw [List.replicate_succ', crcFold_append_singleton, ih, crcStep_self]

theorem crcFold_zeros_append (poly : Byte) (n : Nat) (x : List Byte) :
    crcFold poly (List.replicate n 0 ++ x) = crcFold poly x := by
  rw [crcFold_append, crcFold_replicate_zero]
  rfl

/-! An odd polynomial: nothing is lost by an iteration. -/

/-- The bit shifted in is the polynomial's lowest, so it tells which branch was taken. -/
theorem eq_zero_of_crcShift_eq_zero {poly x : Byte} (hodd : poly.getLsbD 0 = true) (h : crcShift poly x = 0) :
    x = 0 := by
  unfold crcShift at h
  split_ifs at h with hmsb
  · have hbit := congrArg (BitVec.getLsbD · 0) h
    rw [BitVec.getLsbD_xor, hodd] at hbit
    simp at hbit
  · refine BitVec.eq_of_getLsbD_eq fun i hi => ?_
    by_cases hlast : i = 7
    · subst hlast
      rw [BitVec.msb_eq_getLsbD_last] at hmsb
      simpa using hmsb
    · have hbit := congrArg (BitVec.getLsbD · (i + 1)) h
      have hlt : i + 1 < 8 := by omega
      simpa [BitVec.getLsbD_shiftLeft, hlt, BitVec.getLsbD_eq_getElem hi] using hbit

theorem crcShift_injective {poly : Byte} (hodd : poly.getLsbD 0 = true) : Function.Injective (crcShift poly) := by
  intro x y h
  have hzero : crcShift poly (x ^^^ y) = 0 := by
    rw [crcShift_xor, h]
    exact BitVec.xor_self
  exact BitVec.xor_eq_zero_iff.1 (eq_zero_of_crcShift_eq_zero hodd hzero)

theorem crcShifts_injective {poly : Byte} (hodd : poly.getLsbD 0 = true) (n : Nat) :
    Function.Injective (crcShifts poly n) := by
  induction n with
  | zero => exact Function.injective_id
  | succ n ih => exact ih.comp (crcShift_injective hodd)

theorem crcStep_injective_left {poly : Byte} (hodd : poly.getLsbD 0 = true) (b : Byte) :
    Function.Injective fun a => crcStep poly a b :=
  fun _ _ h => (BitVec.xor_left_inj b).1 (crcShifts_injective hodd 8 h)

theorem crcStep_injective_right {poly : Byte} (hodd : poly.getLsbD 0 = true) (a : Byte) :
    Function.Injective (crcStep poly a) :=
  fun _ _ h => (BitVec.xor_right_inj a).1 (crcShifts_injective hodd 8 h)

theorem foldl_crcStep_injective {poly : Byte} (hodd : poly.getLsbD 0 = true) (x : List Byte) :
    Function.Injective fun a => x.foldl (crcStep poly) a := by
  induction x with
  | nil => exact Function.injective_id
  | cons b x ih => exact ih.comp (crcStep_injective_left hodd b)

/-- For an odd polynomial a single changed byte changes the checksum (R68(d)). -/
theorem crcFold_set_ne {poly : Byte} (hodd : poly.getLsbD 0 = true) {x : List Byte} {i : Nat} {a b : Byte}
    (ha : x[i]? = some a) (hne : b ≠ a) : crcFold poly (x.set i b) ≠ crcFold poly x := by
  obtain ⟨hi, rfl⟩ := List.getElem?_eq_some_iff.1 ha
  have hsplit : x = x.take i ++ x[i] :: x.drop (i + 1) := by
    rw [← List.drop_eq_getElem_cons hi, List.take_append_drop]
  intro h
  rw [List.set_eq_take_append_cons_drop, if_pos hi, crcFold_append] at h
  conv_rhs at h => rw [hsplit, crcFold_append]
  exact hne (crcStep_injective_right hodd _ (foldl_crcStep_injective hodd _ h))

/-- Settles O22: the laws are linearity, the vanishing of a byte step on its own accumulator, and injectivity. -/
theorem crcAlgebraicLaws : Obligations.CrcAlgebraicLaws := by
  refine ⟨fun poly x y hlen _ => crcFold_xor poly hlen,
    fun poly n x => ⟨crcFold_replicate_zero poly n, crcFold_zeros_append poly n x⟩, fun poly x => ?_,
    fun poly b hodd => Finite.injective_iff_bijective.1 (crcStep_injective_left hodd b),
    fun poly x i a b hodd ha hne => crcFold_set_ne hodd ha hne, by decide⟩
  rw [crcFold_append_singleton, crcStep_self]

end Sys2Proof.Machine

/-! Conversions there and back (41_channel_codec.md R79, R80), the extended envelope (42_envelope.md R94 to R97), what the
ports refuse, and the frames over all operations. -/

namespace Sys2Proof.Machine

open Sys2Proof Sys2Proof.Safety

/- One after the other: each proof elaborated at the same time takes a thread of its own. -/
set_option Elab.async false

/-! The round trips of the two conversions. -/

/-- An accepted operand converts to a value within 40/78 of the exact quotient: half a unit, or the failsafe pair. -/
theorem us2p_even_near {us : Int} (h0 : 881 ≤ us) (h1 : us ≤ 2119) :
    ∃ v, us2p .even us = .ok v ∧ 0 ≤ v ∧ v ≤ 1984 ∧ |125 * us - 110084 - 78 * v| ≤ 40 := by
  by_cases hfail : us = 1500
  · subst hfail
    exact ⟨992, us2p_failsafe _, by decide, by decide, by decide⟩
  · have hround := isRounded_roundQuotient .even (125 * us - 110084)
    obtain ⟨hlow, hhigh⟩ := (isRounded_even_in_range_iff hround).2 ⟨h0, h1⟩
    refine ⟨_, us2p_of_rounded_in_range hfail ⟨hlow, hhigh⟩, hlow, hhigh, ?_⟩
    rcases hround with hnear | ⟨hhalf, _⟩ <;> omega

/-- Settles O28: there, the quotient by 125 is within 62/78 of the value, and back within 40/78, so the two differ by
less than two units; the other way round the bounds leave one value. -/
theorem conversionRoundTrips : Obligations.ConversionRoundTrips := by
  refine ⟨rfl, rfl, rfl, rfl, fun v h0 h1 => ?_, fun us h0 h1 => ?_⟩
  · obtain ⟨w, hback, _, _, hnear⟩ := us2p_even_near (us := (78 * v + 110146) / 125) (by omega) (by omega)
    obtain ⟨hlow, hhigh⟩ := abs_le.1 hnear
    exact ⟨_, w, p2us_of_in_range h0 h1, hback, abs_le.2 ⟨by omega, by omega⟩⟩
  · obtain ⟨v, hthere, hv0, hv1, hnear⟩ := us2p_even_near h0 h1
    obtain ⟨hlow, hhigh⟩ := abs_le.1 hnear
    refine ⟨v, hthere, ?_⟩
    rw [p2us_of_in_range hv0 hv1]
    exact congrArg _ (by omega)

/-- The quotient by 78 is an exact half at these operands (R79). -/
theorem tie_iff (us : Int) : (125 * us - 110084) % 78 = 39 ↔ us % 78 = 13 := by
  omega

/-- Away from a tie the rule is not asked. -/
theorem roundQuotient_of_no_tie {n : Int} (h : n % 78 ≠ 39) (t t' : TieRule) :
    roundQuotient t n = roundQuotient t' n := by
  rcases roundQuotient_cases t n with ⟨hr, hq⟩ | ⟨hr, hq⟩ | ⟨hr, _⟩
  · rcases roundQuotient_cases t' n with ⟨_, hq'⟩ | ⟨hr', _⟩ | ⟨hr', _⟩
    · rw [hq, hq']
    · omega
    · omega
  · rcases roundQuotient_cases t' n with ⟨hr', _⟩ | ⟨_, hq'⟩ | ⟨hr', _⟩
    · omega
    · rw [hq, hq']
    · omega
  · exact absurd hr h

/-- Settles O29: the ties by arithmetic mod 78, the sixteen tie points by evaluation. -/
theorem reverseConversionTies : Obligations.ReverseConversionTies := by
  refine ⟨fun us => by rw [← tie_iff]; omega, fun us hus => ?_, rfl, rfl⟩
  rw [us2p_eq, us2p_eq, roundQuotient_of_no_tie (mt (tie_iff us).1 hus) .even .halfUp]

/-! The extended envelope. -/

theorem xenvNew_of_envNew_error {raw : List Byte} {e : ErrorKind} (h : envNew raw = .error e) :
    xenvNew raw = .error e := by
  rw [xenvNew, h]

theorem xenvNew_of_short {raw : List Byte} (h : envNew raw = .ok ()) (hlen : raw.length < 6) :
    xenvNew raw = .error .invalidLength := by
  rw [xenvNew, h]
  exact if_pos hlen

theorem xenvNew_of_long {raw : List Byte} (h : envNew raw = .ok ()) (hlen : 6 ≤ raw.length) : xenvNew raw = .ok () := by
  rw [xenvNew, h]
  exact if_neg (Nat.not_lt.2 hlen)

theorem exec_xenvNew_of_fits {s : State} (hfits : s.ops.raw.length ≤ 64) :
    exec .xenvNew s = s.answer ((xenvNew s.ops.raw).map fun _ => .nothing) :=
  State.guarded_of_imageFits hfits _

/-- Settles O33: the base construction answers first, then the minimum of 6 bytes. -/
theorem extendedConstruction : Obligations.ExtendedConstruction := by
  refine ⟨rfl, fun s hfits => ?_⟩
  have hexec := exec_xenvNew_of_fits hfits
  refine ⟨fun hshort => ?_, fun hlen hbad => ?_, fun hlen hgood hshort => ?_, fun hlen hgood => ?_⟩
  · exact raises_of_body_error hexec (xenvNew_of_envNew_error (envNew_of_short hshort))
  · exact raises_of_body_error hexec (xenvNew_of_envNew_error (envNew_of_not_checksumGood hlen hbad))
  · exact raises_of_body_error hexec (xenvNew_of_short (envNew_of_checksumGood hlen hgood) hshort)
  · exact answersPure_of_body_ok hexec (xenvNew_of_long (envNew_of_checksumGood (by omega) hgood) hlen)

theorem lookupXtype_of_mem {p : Params} {x : Byte} (h : x ∈ p.xtypes) : lookupXtype p x = .ok x :=
  if_pos (List.contains_iff_mem.2 h)

theorem lookupXtype_of_not_mem {p : Params} {x : Byte} (h : x ∉ p.xtypes) :
    lookupXtype p x = .error .unknownFrameType :=
  if_neg (mt List.contains_iff_mem.1 h)

/-- An accessor that looks byte `k` up in the address registry. -/
theorem addressAccessor_clauses {i : Instr} {s : State} {k : Nat} {a : Byte}
    (hexec : exec i s = s.readImageByte k fun a => (lookupAddress s.params a).map .byte)
    (hfits : s.ops.raw.length ≤ 64) (ha : s.ops.raw[k]? = some a) :
    (a ∈ s.params.addresses → AnswersPure i s .ok (.byte a)) ∧
    (a ∉ s.params.addresses → Raises i s .unknownAddress) := by
  have hbody := exec_of_present_byte hexec hfits ha
  exact ⟨fun hmem => answersPure_of_body_ok hbody (lookupAddress_of_mem hmem),
    fun hmem => raises_of_body_error hbody (lookupAddress_of_not_mem hmem)⟩

theorem exec_xenvDest (s : State) :
    exec .xenvDest s = s.readImageByte 3 fun a => (lookupAddress s.params a).map .byte := rfl

theorem exec_xenvSrc (s : State) :
    exec .xenvSrc s = s.readImageByte 4 fun a => (lookupAddress s.params a).map .byte := rfl

theorem exec_xenvXtype (s : State) :
    exec .xenvXtype s = s.readImageByte 5 fun x => (lookupXtype s.params x).map .byte := rfl

/-- Settles O34: three accessors of one byte, each with its lookup. -/
theorem extendedAccessors : Obligations.ExtendedAccessors := by
  refine ⟨rfl, rfl, rfl, fun s hfits => ⟨fun h => ?_, fun h => ?_, fun h => ?_,
    fun a ha => addressAccessor_clauses (exec_xenvDest s) hfits ha,
    fun a ha => addressAccessor_clauses (exec_xenvSrc s) hfits ha, fun x hx => ?_⟩⟩
  · exact isRefused_of_missing_byte (exec_xenvDest s) (by omega)
  · exact isRefused_of_missing_byte (exec_xenvSrc s) (by omega)
  · exact isRefused_of_missing_byte (exec_xenvXtype s) (by omega)
  · have hbody := exec_of_present_byte (exec_xenvXtype s) hfits hx
    exact ⟨fun hmem => answersPure_of_body_ok hbody (lookupXtype_of_mem hmem),
      fun hmem => raises_of_body_error hbody (lookupXtype_of_not_mem hmem)⟩

/-! What the ports refuse. -/

theorem fitsSigned_false {w : Nat} {x : Int} (h : ¬ isSigned w x) : fitsSigned w x = false := by
  rwa [← Bool.not_eq_true, fitsSigned_iff]

/-- Settles O19: each clause makes one port check fail; a kind operand that is no EXTENDED kind has no offset. -/
theorem operandPortsRefuse : Obligations.OperandPortsRefuse := by
  refine fun s => ⟨fun hcrc => ?_, fun hv => isRefused_of_guarded rfl (fitsSigned_false hv),
    fun hus => isRefused_of_guarded rfl (fitsSigned_false hus),
    fun m hm hlen => isRefused_of_guarded rfl ((withinCap_false_iff _ _).2 ⟨m, hm, hlen⟩), fun hch => ?_, fun hkind => ?_⟩
  · have hfits : crc8Fits s.params s.ops = false := by
      rw [← Bool.not_eq_true, crc8Fits_iff]
      rintro ⟨hdata, hstart, hstop⟩
      rcases hcrc with ⟨m, hm, hlen⟩ | h | h
      · exact absurd (hdata m hm) (Nat.not_le.2 hlen)
      · exact h hstart
      · exact h hstop
    exact isRefused_of_guarded rfl hfits
  · obtain ⟨c, hc, hwide⟩ := hch
    exact isRefused_of_guarded rfl ((chPackFits_false_iff _ _).2 fun h => hwide (h.2 c hc))
  · have hexec : exec .xenvData s = execXenvData s := rfl
    have hoffset : xenvOffset s.ops.kind = none := by
      rcases hkind with hraw | ⟨d, hd, hbase⟩
      · rw [hraw]
        rfl
      · simp only [hd, xenvOffset, hbase]
    rw [execXenvData, hoffset] at hexec
    exact hexec

theorem imageFits_false {raw : List Byte} (h : 64 < raw.length) : imageFits raw = false := by
  rw [← Bool.not_eq_true, imageFits_iff]
  omega

/-- `XENV_DATA` is refused on a long image whether or not its kind operand has an offset. -/
theorem xenvData_isRefused_of_long {s : State} (h : 64 < s.ops.raw.length) : IsRefused .xenvData s := by
  have hexec : exec .xenvData s = execXenvData s := rfl
  unfold execXenvData at hexec
  split at hexec
  · exact isRefused_of_guarded hexec (by rw [imageFits_false h, Bool.false_and])
  · exact hexec

/-- Settles O36: a long image fails the length check of every operation on images. -/
theorem longImagesRefused : Obligations.LongImagesRefused := by
  intro s hlong i hi
  have hguarded : ∀ {i : Instr} {body}, exec i s = s.guarded (imageFits s.ops.raw) body → IsRefused i s :=
    fun hexec => isRefused_of_guarded hexec (imageFits_false hlong)
  have hbyte : ∀ {i : Instr} {k body}, exec i s = s.readImageByte k body → IsRefused i s :=
    fun hexec => hexec.trans (State.readImageByte_of_long hlong _ _)
  simp only [List.mem_cons, List.not_mem_nil, or_false] at hi
  rcases hi with rfl | rfl | rfl | rfl | rfl | rfl | rfl | rfl | rfl | rfl | rfl | rfl | rfl | rfl
  · exact hguarded rfl
  · exact hguarded rfl
  · exact hbyte rfl
  · exact hbyte rfl
  · exact hbyte rfl
  · exact isRefused_of_guarded rfl (by rw [imageFits_false hlong, Bool.false_and])
  · exact hbyte rfl
  · exact hguarded rfl
  · exact hguarded rfl
  · exact hbyte rfl
  · exact hbyte rfl
  · exact hbyte rfl
  · exact xenvData_isRefused_of_long hlong
  · exact hguarded rfl

/-! Frames over all operations. -/

/-- Settles O14. -/
theorem pureOperationsWriteNoState : Obligations.PureOperationsWriteNoState :=
  fun _ s h => exec_pure_cases h s

/-- The same body behind the same port checks answers alike in any two states. -/
theorem response_eq_of_guarded {s s' t t' : State} {fits : Bool} {body : Except ErrorKind Result}
    (h : s.guarded fits body = .next t) (h' : s'.guarded fits body = .next t') : t.response = t'.response := by
  cases fits with
  | false => cases h; cases h'; rfl
  | true =>
    cases body with
    | ok r => cases h; cases h'; rfl
    | error e => cases h; cases h'; rfl

theorem response_eq_of_readImageByte {s s' t t' : State} {k : Nat} {body : Byte → Except ErrorKind Result}
    (h : s.readImageByte k body = .next t) (h' : s'.readImageByte k body = .next t') (hops : s.ops = s'.ops) :
    t.response = t'.response := by
  unfold State.readImageByte at h h'
  rw [hops] at h
  cases hbyte : s'.ops.raw[k]? with
  | some b =>
    rw [hbyte] at h h'
    exact response_eq_of_guarded h h'
  | none =>
    rw [hbyte] at h h'
    cases h
    cases h'
    rfl

theorem response_eq_of_xenvData {s s' t t' : State} (h : execXenvData s = .next t) (h' : execXenvData s' = .next t')
    (hops : s.ops = s'.ops) : t.response = t'.response := by
  unfold execXenvData at h h'
  rw [hops] at h
  cases hoffset : xenvOffset s'.ops.kind with
  | some o =>
    rw [hoffset] at h h'
    exact response_eq_of_guarded h h'
  | none =>
    rw [hoffset] at h h'
    cases h
    cases h'
    rfl

/-- Settles O15: with the operand images and the parameters in common, both states put the same body behind the same
checks. -/
theorem pureOperationsReadNoState : Obligations.PureOperationsReadNoState := by
  rintro i ⟨pr, params, requests, ops, response, sink⟩ ⟨pr', _, requests', _, response', sink'⟩ t t' hpure rfl rfl h h'
  cases i with
  | envAddr => exact response_eq_of_readImageByte h h' rfl
  | envLen => exact response_eq_of_readImageByte h h' rfl
  | envType => exact response_eq_of_readImageByte h h' rfl
  | envCsum => exact response_eq_of_readImageByte h h' rfl
  | xenvDest => exact response_eq_of_readImageByte h h' rfl
  | xenvSrc => exact response_eq_of_readImageByte h h' rfl
  | xenvXtype => exact response_eq_of_readImageByte h h' rfl
  | xenvData => exact response_eq_of_xenvData h h' rfl
  | frameAttitude => exact response_eq_of_guarded (fits := true) h h'
  | frameVariometer => exact response_eq_of_guarded (fits := true) h h'
  | fbAdd | fbGet | fbResync | fbFlush => cases hpure
  | prProcess | prBuild | prFlush | prRstat | prErate => cases hpure
  | _ => exact response_eq_of_guarded h h'

/-- Settles O16: of the shapes of an operation, the buffer's have only the first two. -/
theorem bufferOperationsFrame : Obligations.BufferOperationsFrame := by
  intro i s t hi h
  rcases exec_shape h with ⟨_, _, rfl⟩ | ⟨_, _, _, _, rfl⟩ | ⟨_, _, rfl, _⟩ | ⟨_, _, rfl, _⟩ | ⟨rfl, _⟩
  · exact ⟨rfl, rfl, rfl, rfl, rfl, rfl⟩
  · exact ⟨rfl, rfl, rfl, rfl, rfl, rfl⟩
  · cases hi
  · cases hi
  · cases hi

/-- Settles O17: one shape of an operation writes the sink, and three write the counters. -/
theorem sinkAndCountersMoveOnlyInProcessor : Obligations.SinkAndCountersMoveOnlyInProcessor := by
  intro i s t h
  have hkept : ∀ {u : State}, u.sink = s.sink → ∃ fs, u.sink = s.sink ++ fs := fun hu => ⟨[], by rw [hu, List.append_nil]⟩
  rcases exec_shape h with ⟨_, _, rfl⟩ | ⟨_, _, _, _, rfl⟩ | ⟨fs, _, rfl, _, rfl⟩ | ⟨_, _, rfl, _, rfl⟩ | ⟨rfl, rfl⟩
  · exact ⟨fun _ => rfl, hkept rfl, fun _ _ _ => ⟨rfl, rfl⟩⟩
  · exact ⟨fun _ => rfl, hkept rfl, fun _ _ _ => ⟨rfl, rfl⟩⟩
  · exact ⟨fun hne => absurd rfl hne, ⟨fs, rfl⟩, fun hne => absurd rfl hne⟩
  · exact ⟨fun _ => rfl, hkept rfl, fun _ hne => absurd rfl hne⟩
  · exact ⟨fun _ => rfl, hkept rfl, fun _ _ hne => absurd rfl hne⟩

end Sys2Proof.Machine

/-! The Frame Dispatcher (44_dispatcher.md R125 to R129): what the decode of a type byte, a kind's constructor and the
dispatcher answer, and the error kinds of every operation (60_exceptions.md R141). -/

namespace Sys2Proof.Machine

open Sys2Proof Sys2Proof.Safety

/- One after the other: each proof elaborated at the same time takes a thread of its own. -/
set_option Elab.async false

/-! The decode of a type byte. -/

theorem dispatchType_of_unknown {p : Params} {t : Byte} (h : lookupType p t = none) (hpolicy : p.unknownType = .error) :
    dispatchType p t = .error .unknownFrameType := by
  simp only [dispatchType, h, hpolicy]

theorem dispatchType_of_fallback {p : Params} {t : Byte} (h : lookupType p t = none)
    (hpolicy : p.unknownType = .rawFallback) : dispatchType p t = .ok none := by
  simp only [dispatchType, h, hpolicy]

theorem dispatchType_of_unhandled {p : Params} {t : Byte} {k : KindDesc} (h : lookupType p t = some k)
    (hk : k.handled = false) : dispatchType p t = .ok none := by
  simp [dispatchType, h, hk]

theorem dispatchType_of_handled {p : Params} {t : Byte} {k : KindDesc} (h : lookupType p t = some k)
    (hk : k.handled = true) : dispatchType p t = .ok (some k) := by
  simp [dispatchType, h, hk]

theorem dispatchType_error {p : Params} {t : Byte} {e : ErrorKind} (h : dispatchType p t = .error e) :
    e = .unknownFrameType := by
  unfold dispatchType at h
  split at h
  · split at h
    · cases h
      rfl
    · cases h
  · split_ifs at h

theorem dispatchType_some {p : Params} {t : Byte} {k : KindDesc} (h : dispatchType p t = .ok (some k)) :
    lookupType p t = some k := by
  unfold dispatchType at h
  split at h
  · split at h <;> cases h
  · split_ifs at h
    · cases h
      assumption
    · cases h

/-- A registered kind is an entry of the registry. -/
theorem mem_of_lookupType {p : Params} {t : Byte} {k : KindDesc} (h : lookupType p t = some k) :
    ∃ x ∈ p.types, x.2 = k := by
  obtain ⟨x, hx, rfl⟩ := Option.map_eq_some_iff.1 h
  exact ⟨x, List.mem_of_find?_eq_some hx, rfl⟩

theorem lookupType_of_regEx {p : Params} (h : p.types = Config.regEx) (t : Byte) :
    lookupType p t = (Config.regEx.find? fun e => e.1 == t).map Prod.snd := by
  rw [lookupType, h]

/-! A kind's constructor: the first check that fails is the answer (R126). -/

/-- The envelope construction of a class, with the minimum of 6 bytes where the class is EXTENDED. -/
theorem classNew_of_envNew_error {c : FrameClass} {raw : List Byte} {e : ErrorKind} (h : envNew raw = .error e) :
    classNew c raw = .error e := by
  cases c with
  | base => exact h
  | extended o => exact xenvNew_of_envNew_error h

theorem classNew_of_short_extended {o : XDataOffset} {raw : List Byte} (h : envNew raw = .ok ()) (hlen : raw.length < 6) :
    classNew (.extended o) raw = .error .invalidLength :=
  xenvNew_of_short h hlen

theorem classNew_of_envNew_ok {c : FrameClass} {raw : List Byte} (h : envNew raw = .ok ())
    (hlen : c = .base ∨ 6 ≤ raw.length) : classNew c raw = .ok () := by
  cases c with
  | base => exact h
  | extended o =>
    rcases hlen with hbase | hlen
    · cases hbase
    · exact xenvNew_of_long h hlen

theorem concrete_of_classNew_error {k : KindDesc} {raw : List Byte} {e : ErrorKind} (h : classNew k.cls raw = .error e) :
    concrete k raw = .error e := by
  rw [concrete, h]

theorem concrete_of_tooShort {k : KindDesc} {raw : List Byte} (h : classNew k.cls raw = .ok ())
    (hshort : tooShort k raw = true) : concrete k raw = .error .invalidLength := by
  rw [concrete, h]
  exact if_pos hshort

theorem concrete_of_extraCheck_error {k : KindDesc} {raw : List Byte} {e : ErrorKind} (h : classNew k.cls raw = .ok ())
    (hlong : tooShort k raw = false) (hextra : runExtraCheck k.extraCheck raw = some e) :
    concrete k raw = .error e := by
  simp [concrete, h, hlong, hextra]

theorem concrete_of_checks_ok {k : KindDesc} {raw : List Byte} (h : classNew k.cls raw = .ok ())
    (hlong : tooShort k raw = false) (hextra : runExtraCheck k.extraCheck raw = none) :
    concrete k raw = .ok ⟨.named k.name, raw⟩ := by
  simp [concrete, h, hlong, hextra]

theorem tooShort_eq_true {k : KindDesc} {n : Nat} {raw : List Byte} (hcheck : k.checkMinLen = true)
    (hsize : k.fixedSize = some n) (hlen : raw.length < n) : tooShort k raw = true := by
  rw [tooShort, hcheck, frameSizeOf_of_fixedSize hsize, Bool.true_and]
  exact decide_eq_true hlen

theorem tooShort_eq_false {k : KindDesc} {raw : List Byte}
    (h : k.checkMinLen = false ∨ ∃ n, k.fixedSize = some n ∧ n ≤ raw.length) : tooShort k raw = false := by
  rcases h with hcheck | ⟨n, hsize, hlen⟩
  · rw [tooShort, hcheck, Bool.false_and]
  · rw [tooShort, frameSizeOf_of_fixedSize hsize, decide_eq_false (Nat.not_lt.2 hlen), Bool.and_false]

/-- A frame carries the image it was made of. -/
theorem concrete_raw {k : KindDesc} {raw : List Byte} {f : Frame} (h : concrete k raw = .ok f) : f.raw = raw := by
  unfold concrete at h
  split at h
  · cases h
  · split_ifs at h
    split at h
    · cases h
    · cases h
      rfl

theorem classNew_error {c : FrameClass} {raw : List Byte} {e : ErrorKind} (h : classNew c raw = .error e) :
    envNew raw = .error e ∨ xenvNew raw = .error e := by
  cases c with
  | base => exact .inl h
  | extended o => exact .inr h

/-! The dispatcher. -/

theorem dispGen_of_short {p : Params} {raw : List Byte} (h : raw.length < 3) :
    dispGen p raw = .error .invalidLength :=
  if_pos h

/-- An image with a type byte is dispatched on it. -/
theorem dispGen_of_type {p : Params} {raw : List Byte} {t : Byte} (ht : raw[2]? = some t) :
    (∀ e, dispatchType p t = .error e → dispGen p raw = .error e) ∧
    (dispatchType p t = .ok none → dispGen p raw = .ok ⟨.raw, raw⟩) ∧
    (∀ k, dispatchType p t = .ok (some k) → dispGen p raw = concrete k raw) := by
  have hlen : ¬ raw.length < 3 := Nat.not_lt.2 (List.getElem?_eq_some_iff.1 ht).1
  rw [dispGen, if_neg hlen, ht]
  refine ⟨fun e h => ?_, fun h => ?_, fun k h => ?_⟩
  · simp only [h]
  · simp only [h]
    rfl
  · simp only [h]

/-- What the dispatcher did when it answered: too short an image, an undecodable type byte, a raw frame, or what the
kind's constructor answered. -/
theorem dispGen_cases (p : Params) (raw : List Byte) :
    (raw.length < 3 ∧ dispGen p raw = .error .invalidLength) ∨
    ∃ t, raw[2]? = some t ∧
      ((∃ e, dispatchType p t = .error e ∧ dispGen p raw = .error e) ∨ dispGen p raw = .ok ⟨.raw, raw⟩ ∨
        ∃ k, lookupType p t = some k ∧ dispGen p raw = concrete k raw) := by
  by_cases hlen : raw.length < 3
  · exact .inl ⟨hlen, dispGen_of_short hlen⟩
  · have ht : raw[2]? = some raw[2] := List.getElem?_eq_getElem (by omega)
    obtain ⟨herror, hraw, hconcrete⟩ := dispGen_of_type (p := p) ht
    refine .inr ⟨raw[2], ht, ?_⟩
    rcases hd : dispatchType p raw[2] with e | _ | k
    · exact .inl ⟨e, rfl, herror e hd⟩
    · exact .inr (.inl (hraw hd))
    · exact .inr (.inr ⟨k, dispatchType_some hd, hconcrete k hd⟩)

theorem dispGen_raw {p : Params} {raw : List Byte} {f : Frame} (h : dispGen p raw = .ok f) : f.raw = raw := by
  rcases dispGen_cases p raw with ⟨_, h'⟩ | ⟨t, _, ⟨e, _, h'⟩ | h' | ⟨k, _, h'⟩⟩ <;> rw [h'] at h
  · cases h
  · cases h
  · cases h
    rfl
  · exact concrete_raw h

theorem exec_dispGen_of_fits {s : State} (hfits : s.ops.raw.length ≤ 64) :
    exec .dispGen s = s.answer ((dispGen s.params s.ops.raw).map .frame) :=
  State.guarded_of_imageFits hfits _

/-- Settles O48: the type byte's row first, then the constructor's checks in their order. -/
theorem dispatchDecisionTable : Obligations.DispatchDecisionTable := by
  intro s hfits
  have hexec := exec_dispGen_of_fits hfits
  refine ⟨fun hshort => raises_of_body_error hexec (dispGen_of_short hshort), fun t ht => ?_⟩
  obtain ⟨herror, hraw, hconcrete⟩ := dispGen_of_type (p := s.params) ht
  refine ⟨fun hnone hpolicy => raises_of_body_error hexec (herror _ (dispatchType_of_unknown hnone hpolicy)),
    fun hnone hpolicy => answersPure_of_body_ok hexec (hraw (dispatchType_of_fallback hnone hpolicy)), fun k hk =>
    ⟨fun hunhandled => answersPure_of_body_ok hexec (hraw (dispatchType_of_unhandled hk hunhandled)),
    fun hhandled hlen => ?_, fun hhandled hlen hbad => ?_, fun hhandled hlen hgood => ⟨?_, fun hclass => ⟨?_, ?_⟩⟩⟩⟩
  all_goals rw [hconcrete k (dispatchType_of_handled hk hhandled)] at hexec
  · exact raises_of_body_error hexec (concrete_of_classNew_error (classNew_of_envNew_error (envNew_of_short hlen.le)))
  · exact raises_of_body_error hexec
      (concrete_of_classNew_error (classNew_of_envNew_error (envNew_of_not_checksumGood hlen hbad)))
  all_goals have hnew := envNew_of_checksumGood hlen hgood
  · rintro ⟨o, ho⟩ hshort
    refine raises_of_body_error hexec (concrete_of_classNew_error ?_)
    rw [ho]
    exact classNew_of_short_extended hnew hshort
  · exact fun n hcheck hsize hshort => raises_of_body_error hexec
      (concrete_of_tooShort (classNew_of_envNew_ok hnew hclass) (tooShort_eq_true hcheck hsize hshort))
  · intro hsize
    have hcls := classNew_of_envNew_ok hnew hclass
    have hlong := tooShort_eq_false hsize
    exact ⟨fun e hextra => raises_of_body_error hexec (concrete_of_extraCheck_error hcls hlong hextra),
      fun hextra => answersPure_of_body_ok hexec (concrete_of_checks_ok hcls hlong hextra)⟩

/-! The two attested type bytes. -/

/-- The clauses that hold of any operation that decodes a type byte. -/
theorem typeByte_clauses {i : Instr} {s : State} {t : Byte}
    (hexec : exec i s = s.answer ((dispatchType s.params t).map .kind)) :
    (∀ k, lookupType s.params t = some k → k.handled = true → AnswersPure i s .ok (.kind (some k))) ∧
    (∀ k, lookupType s.params t = some k → k.handled = false → AnswersPure i s .ok (.kind none)) ∧
    (lookupType s.params t = none → s.params.unknownType = .error → Raises i s .unknownFrameType) ∧
    (lookupType s.params t = none → s.params.unknownType = .rawFallback → AnswersPure i s .ok (.kind none)) :=
  ⟨fun _ hk hhandled => answersPure_of_body_ok hexec (dispatchType_of_handled hk hhandled),
    fun _ hk hunhandled => answersPure_of_body_ok hexec (dispatchType_of_unhandled hk hunhandled),
    fun hnone hpolicy => raises_of_body_error hexec (dispatchType_of_unknown hnone hpolicy),
    fun hnone hpolicy => answersPure_of_body_ok hexec (dispatchType_of_fallback hnone hpolicy)⟩

/-- Settles O49: the four clauses of any type byte, and the example registry's entry for each of the two. -/
theorem attestedTypeBytes : Obligations.AttestedTypeBytes := by
  rintro s i t (⟨rfl, rfl⟩ | ⟨rfl, rfl⟩)
  · obtain ⟨hhandled, hunhandled, hunknown, hfallback⟩ := typeByte_clauses (i := .frameAttitude) (s := s) (t := 0x1E) rfl
    refine ⟨hhandled, hunhandled, hunknown, hfallback, fun hreg => ⟨Config.descAttitude, hhandled _ ?_ rfl, ?_, ?_⟩⟩
    · rw [lookupType_of_regEx hreg]
      rfl
    · exact fun _ => ⟨rfl, rfl, rfl⟩
    · intro h
      cases h
  · obtain ⟨hhandled, hunhandled, hunknown, hfallback⟩ :=
      typeByte_clauses (i := .frameVariometer) (s := s) (t := 0x07) rfl
    refine ⟨hhandled, hunhandled, hunknown, hfallback, fun hreg => ⟨Config.descVariometer, hhandled _ ?_ rfl, ?_, ?_⟩⟩
    · rw [lookupType_of_regEx hreg]
      rfl
    · intro h
      cases h
    · exact fun _ => ⟨rfl, rfl⟩

/-! The source's two example frames. -/

/-- An image whose type byte has a handled entry in the registry goes to that kind's constructor. -/
theorem dispGen_of_handled {p : Params} {raw : List Byte} {t : Byte} {k : KindDesc} (ht : raw[2]? = some t)
    (hk : lookupType p t = some k) (hhandled : k.handled = true) : dispGen p raw = concrete k raw :=
  (dispGen_of_type ht).2.2 k (dispatchType_of_handled hk hhandled)

theorem desc_of_named {p : Params} {raw : List Byte} {t : Byte} (ht : raw[2]? = some t) (n : KindName) :
    Frame.desc p ⟨.named n, raw⟩ = lookupType p t := by
  simp only [Frame.desc, ht, Option.bind_some]

/-- Settles O50: the registry entry of each type byte, and the constructor evaluated on the bytes. -/
theorem sourceExampleFrames : Obligations.SourceExampleFrames := by
  rintro p hreg x y rfl rfl
  have hattitude : lookupType p 0x1E = some Config.descAttitude := by
    rw [lookupType_of_regEx hreg]
    rfl
  have hvariometer : lookupType p 0x07 = some Config.descVariometer := by
    rw [lookupType_of_regEx hreg]
    rfl
  refine ⟨?_, ?_, ?_, ?_, ?_⟩
  · rw [dispGen_of_handled rfl hattitude rfl]
    decide +kernel
  · rw [Frame.frameSize, desc_of_named rfl, hattitude]
    rfl
  · rw [Frame.telemetry, desc_of_named rfl, hattitude]
    rfl
  · rw [dispGen_of_handled rfl hvariometer rfl]
    decide +kernel
  · rw [Frame.frameSize, desc_of_named rfl, hvariometer]
    rfl

/-! The error kinds of each body, and of each operation. -/

theorem crc8_error {poly : Byte} {data : List Byte} {start stop : Int} {e : ErrorKind}
    (h : crc8 poly data start stop = .error e) : e = .invalidRange := by
  rcases crc8_cases poly data start stop with ⟨_, h'⟩ | ⟨_, _, _, h'⟩ <;> cases h'.symm.trans h
  rfl

theorem p2us_error {v : Int} {e : ErrorKind} (h : p2us v = .error e) : e = .conversionOutOfRange := by
  rw [p2us_eq] at h
  split_ifs at h
  cases h
  rfl

theorem us2p_error {t : TieRule} {us : Int} {e : ErrorKind} (h : us2p t us = .error e) : e = .conversionOutOfRange := by
  rw [us2p_eq] at h
  split_ifs at h
  cases h
  rfl

theorem envNew_error {raw : List Byte} {e : ErrorKind} (h : envNew raw = .error e) :
    e = .invalidRange ∨ e = .corruptedFrame := by
  rcases envNew_cases raw with ⟨_, h'⟩ | ⟨_, _, h'⟩ | ⟨_, _, h'⟩ <;> cases h'.symm.trans h
  · exact .inl rfl
  · exact .inr rfl

theorem xenvNew_error {raw : List Byte} {e : ErrorKind} (h : xenvNew raw = .error e) :
    e = .invalidRange ∨ e = .corruptedFrame ∨ e = .invalidLength := by
  rcases xenvNew_cases raw with ⟨e', hbase, h'⟩ | ⟨_, _, h'⟩ | ⟨_, _, h'⟩ <;> cases h'.symm.trans h
  · rcases envNew_error hbase with he | he
    · exact .inl he
    · exact .inr (.inl he)
  · exact .inr (.inr rfl)

theorem envBuild_error {addr type : Byte} {payload : List Byte} {e : ErrorKind}
    (h : envBuild addr type payload = .error e) : e = .invalidLength := by
  rcases envBuild_cases addr type payload with ⟨_, h'⟩ | ⟨_, h'⟩ <;> cases h'.symm.trans h
  rfl

theorem lookupAddress_error {p : Params} {a : Byte} {e : ErrorKind} (h : lookupAddress p a = .error e) :
    e = .unknownAddress := by
  unfold lookupAddress at h
  split_ifs at h
  cases h
  rfl

theorem lookupXtype_error {p : Params} {x : Byte} {e : ErrorKind} (h : lookupXtype p x = .error e) :
    e = .unknownFrameType := by
  unfold lookupXtype at h
  split_ifs at h
  cases h
  rfl

theorem typeAnswer_error {p : Params} {t : Byte} {e : ErrorKind} (h : typeAnswer p t = .error e) :
    e = .unknownFrameType := by
  unfold typeAnswer at h
  split at h <;> cases h
  rfl

/-- Without an `extra_check` body a constructor fails in its envelope or on its length. -/
theorem concrete_error {k : KindDesc} {raw : List Byte} {e : ErrorKind} (hok : k.extraCheck = .ok)
    (h : concrete k raw = .error e) : e = .invalidRange ∨ e = .corruptedFrame ∨ e = .invalidLength := by
  unfold concrete at h
  split at h
  · rename_i e' hnew
    cases h
    rcases classNew_error hnew with hbase | hext
    · exact (envNew_error hbase).imp_right .inl
    · exact xenvNew_error hext
  · split_ifs at h
    · cases h
      exact .inr (.inr rfl)
    · rw [hok] at h
      cases h

theorem dispGen_error {p : Params} {raw : List Byte} {e : ErrorKind} (hok : ∀ x ∈ p.types, x.2.extraCheck = .ok)
    (h : dispGen p raw = .error e) : mayRaise .dispGen e = true := by
  rcases dispGen_cases p raw with ⟨_, h'⟩ | ⟨t, _, ⟨e', hd, h'⟩ | h' | ⟨k, hk, h'⟩⟩ <;> rw [h'] at h
  · cases h
    rfl
  · cases h
    rw [dispatchType_error hd]
    rfl
  · cases h
  · obtain ⟨x, hx, rfl⟩ := mem_of_lookupType hk
    rcases concrete_error (hok x hx) h with rfl | rfl | rfl <;> rfl

theorem eq_error_of_map_eq_error {α : Type} {x : Except ErrorKind α} {f : α → Result} {e : ErrorKind}
    (h : x.map f = .error e) : x = .error e := by
  cases x with
  | ok a => cases h
  | error e' =>
    cases h
    rfl

/-- A guarded body that ends with an error kind: the body raised it, and there is no result. -/
theorem body_error_of_guarded {s t : State} {fits : Bool} {body : Except ErrorKind Result} {e : ErrorKind} {r : Result}
    (h : s.guarded fits body = .next t) (ht : t.response = some ⟨.error e, r⟩) : body = .error e ∧ r = .nothing := by
  rcases s.guarded_cases fits body with ⟨_, h'⟩ | ⟨_, _, _, h'⟩ | ⟨e', _, hbody, h'⟩ <;> cases h'.symm.trans h <;>
    cases ht
  exact ⟨hbody, rfl⟩

theorem body_error_of_readImageByte {s t : State} {k : Nat} {body : Byte → Except ErrorKind Result} {e : ErrorKind}
    {r : Result} (h : s.readImageByte k body = .next t) (ht : t.response = some ⟨.error e, r⟩) :
    (∃ b, body b = .error e) ∧ r = .nothing := by
  rcases s.readImageByte_cases k body with h' | ⟨_, _, _, _, h'⟩ | ⟨b, _, _, hbody, h'⟩ <;> cases h'.symm.trans h <;>
    cases ht
  exact ⟨⟨b, hbody⟩, rfl⟩

/-- What an operation behind port checks can end with, from the error kinds of its body. -/
theorem mayRaise_of_guarded {α : Type} {i : Instr} {s t : State} {fits : Bool} {body : Except ErrorKind α}
    {f : α → Result} {e : ErrorKind} {r : Result} (h : s.guarded fits (body.map f) = .next t)
    (ht : t.response = some ⟨.error e, r⟩) (hbody : body = .error e → mayRaise i e = true) :
    mayRaise i e = true ∧ r = .nothing := by
  obtain ⟨herror, hr⟩ := body_error_of_guarded h ht
  exact ⟨hbody (eq_error_of_map_eq_error herror), hr⟩

/-- An operation whose body cannot fail ends with no error kind. -/
theorem no_error_of_guarded_ok {s t : State} {fits : Bool} {res : Result} {e : ErrorKind} {r : Result}
    (h : s.guarded fits (.ok res) = .next t) : t.response ≠ some ⟨.error e, r⟩ := by
  intro ht
  cases (body_error_of_guarded h ht).1

theorem mayRaise_of_readImageByte {i : Instr} {s t : State} {k : Nat} {body : Byte → Except ErrorKind Result}
    {e : ErrorKind} {r : Result} (h : s.readImageByte k body = .next t) (ht : t.response = some ⟨.error e, r⟩)
    (hbody : ∀ b, body b = .error e → mayRaise i e = true) : mayRaise i e = true ∧ r = .nothing := by
  obtain ⟨⟨b, hb⟩, hr⟩ := body_error_of_readImageByte h ht
  exact ⟨hbody b hb, hr⟩

/-- `XENV_DATA` is refused or returns bytes. -/
theorem no_error_of_xenvData {s t : State} {e : ErrorKind} {r : Result} (h : execXenvData s = .next t) :
    t.response ≠ some ⟨.error e, r⟩ := by
  unfold execXenvData at h
  split at h
  · exact no_error_of_guarded_ok h
  · cases h
    exact nofun

/-- The operations of the buffer and of the processor end with OK or a refusal. -/
theorem no_error_of_not_pure {i : Instr} {s t : State} {e : ErrorKind} {r : Result} (hi : pureInstr i = false)
    (h : exec i s = .next t) : t.response ≠ some ⟨.error e, r⟩ := by
  cases i with
  | fbAdd => rcases execFbAdd_cases s with ⟨_, h'⟩ | ⟨_, _, h'⟩ <;> cases h'.symm.trans h <;> exact nofun
  | prProcess => rcases execPrProcess_cases s with ⟨_, h'⟩ | ⟨_, _, _, h'⟩ <;> cases h'.symm.trans h <;> exact nofun
  | prBuild => rcases execPrBuild_cases s with ⟨_, h'⟩ | ⟨_, _, _, h'⟩ <;> cases h'.symm.trans h <;> exact nofun
  | fbGet | fbResync | fbFlush | prFlush | prRstat | prErate =>
    cases h
    exact nofun
  | _ => cases hi

/-- Settles O18: an operation behind port checks ends with an error kind of its body, and the others with none. -/
theorem errorKindsPerOperation : Obligations.ErrorKindsPerOperation := by
  intro i s t e r hok h ht
  cases i with
  | crc8 => exact mayRaise_of_guarded h ht fun hb => crc8_error hb ▸ rfl
  | chP2us => exact mayRaise_of_guarded h ht fun hb => p2us_error hb ▸ rfl
  | chUs2p => exact mayRaise_of_guarded h ht fun hb => us2p_error hb ▸ rfl
  | envNew => exact mayRaise_of_guarded h ht fun hb => by rcases envNew_error hb with rfl | rfl <;> rfl
  | envBuild => exact mayRaise_of_guarded h ht fun hb => envBuild_error hb ▸ rfl
  | xenvNew => exact mayRaise_of_guarded h ht fun hb => by rcases xenvNew_error hb with rfl | rfl | rfl <;> rfl
  | dispGen => exact mayRaise_of_guarded h ht (dispGen_error hok)
  | frameAttitude => exact mayRaise_of_guarded (fits := true) h ht fun hb => dispatchType_error hb ▸ rfl
  | frameVariometer => exact mayRaise_of_guarded (fits := true) h ht fun hb => dispatchType_error hb ▸ rfl
  | envAddr | xenvDest | xenvSrc =>
    exact mayRaise_of_readImageByte h ht fun b hb => lookupAddress_error (eq_error_of_map_eq_error hb) ▸ rfl
  | xenvXtype => exact mayRaise_of_readImageByte h ht fun b hb => lookupXtype_error (eq_error_of_map_eq_error hb) ▸ rfl
  | envType => exact mayRaise_of_readImageByte ((exec_envType s).symm.trans h) ht fun b hb => typeAnswer_error hb ▸ rfl
  | envLen | envCsum => exact mayRaise_of_readImageByte h ht fun b hb => nomatch hb
  | chPack | chUnpack | envNewRaw | envData | envSize => exact absurd ht (no_error_of_guarded_ok h)
  | xenvData => exact absurd ht (no_error_of_xenvData h)
  | fbAdd | fbGet | fbResync | fbFlush => exact absurd ht (no_error_of_not_pure rfl h)
  | prProcess | prBuild | prFlush | prRstat | prErate => exact absurd ht (no_error_of_not_pure rfl h)

end Sys2Proof.Machine

/-! The Frame Buffer's extraction (43_frame_buffer.md R113, R116) and the envelope invariant (42_envelope.md R100, R101):
where `FB_GET` finds its image, that built images survive the buffer, and that a changed byte is detected. -/

namespace Sys2Proof.Machine

open Sys2Proof Sys2Proof.Safety

/- One after the other: each proof elaborated at the same time takes a thread of its own. -/
set_option Elab.async false

/-! `FB_GET` as an operation. -/

theorem fbGet_answers {s : State} {image : Option (List Byte)} {fb : FrameBuffer}
    (h : s.pr.fb.get s.params.marker = (image, fb)) :
    Answers .fbGet s { s.pr with fb := fb } s.sink .ok (imageResult image) := by
  have hexec : exec .fbGet s = execFbGet s := rfl
  rw [Answers, hexec, execFbGet, h]
  rfl

/-- Settles O41: the hypothesis is met, so the body pops. -/
theorem getPopsTheHypothesis : Obligations.GetPopsTheHypothesis :=
  fun _ h1 h64 hq => fbGet_answers (FrameBuffer.get_of_met (Nat.one_le_iff_ne_zero.1 h1) h64 hq)

/-- Settles O42: the recursion, one clause for each outcome of the test and of the resynchronization. -/
theorem getRetriesAfterResync : Obligations.GetRetriesAfterResync := by
  refine ⟨rfl, fun s => ?_, fun m fb htest => ⟨FrameBuffer.get_of_found ?_, FrameBuffer.get_of_not_found ?_⟩,
    fun m fb h0 h64 hq => FrameBuffer.get_of_met h0 h64 hq⟩
  · rcases hget : s.pr.fb.get s.params.marker with ⟨_ | raw, fb⟩
    · exact fbGet_answers hget
    · exact fbGet_answers hget
  · exact (FrameBuffer.mustResync_iff fb).2 htest
  · exact (FrameBuffer.mustResync_iff fb).2 htest

/-! The retry path: the first extractable position behind the head. -/

/-- A complete frame of plausible size stands at the head of the queue (R113(c)). -/
def HeadExtractable (q : List Byte) : Prop :=
  3 ≤ declaredSize q ∧ declaredSize q ≤ 64 ∧ declaredSize q ≤ q.length

theorem firstExtractable_of_head {m : Byte} {post : List Byte} (h : HeadExtractable (m :: post)) :
    firstExtractable m (m :: post) = some (m :: post) :=
  if_pos ⟨rfl, h⟩

theorem firstExtractable_of_not_head {m : Byte} {post : List Byte} (h : ¬ HeadExtractable (m :: post)) :
    firstExtractable m (m :: post) = firstExtractable m post :=
  if_neg fun hhead => h hhead.2

theorem firstExtractable_append_of_not_mem {m : Byte} {pre : List Byte} (h : m ∉ pre) (q : List Byte) :
    firstExtractable m (pre ++ q) = firstExtractable m q := by
  induction pre with
  | nil => rfl
  | cons b pre ih =>
    rw [List.mem_cons, not_or] at h
    obtain ⟨hb, hpre⟩ := h
    exact (if_neg fun hhead => hb hhead.1.symm).trans (ih hpre)

theorem firstExtractable_of_not_mem {m : Byte} {q : List Byte} (h : m ∉ q) : firstExtractable m q = none := by
  have hnil := firstExtractable_append_of_not_mem h []
  rwa [List.append_nil] at hnil

/-- What the retry path answers when the bytes `q` are to be searched: the frame at the first extractable position, or
nothing and an empty buffer. -/
def skipTo (m : Byte) (q : List Byte) : Option (List Byte) × FrameBuffer :=
  match firstExtractable m q with
  | none => (none, FrameBuffer.empty)
  | some q' => (some (q'.take (declaredSize q')), derivedBuffer (q'.drop (declaredSize q')))

theorem skipTo_of_none {m : Byte} {q : List Byte} (h : firstExtractable m q = none) :
    skipTo m q = (none, FrameBuffer.empty) := by
  rw [skipTo, h]

theorem skipTo_of_some {m : Byte} {q q' : List Byte} (h : firstExtractable m q = some q') :
    skipTo m q = (some (q'.take (declaredSize q')), derivedBuffer (q'.drop (declaredSize q'))) := by
  rw [skipTo, h]

theorem derivedBuffer_get_of_head {m : Byte} {q : List Byte} (h : HeadExtractable q) :
    (derivedBuffer q).get m = (some (q.take (declaredSize q)), derivedBuffer (q.drop (declaredSize q))) := by
  obtain ⟨h3, h64, hq⟩ := h
  exact FrameBuffer.get_of_met (by rw [derivedBuffer_size]; omega) h64 hq

theorem derivedBuffer_mustResync_of_not_head {q : List Byte} (h : ¬ HeadExtractable q) :
    (derivedBuffer q).mustResync = true := by
  rw [FrameBuffer.mustResync_iff, derivedBuffer_size, derivedBuffer_q]
  unfold HeadExtractable at h
  rcases declaredSize_cases q with ⟨h0, _⟩ | ⟨_, d, _, hd, _⟩ <;> omega

/-- The retries of `FB_GET` search behind the head, marker by marker. -/
theorem FrameBuffer.get_eq_skipTo (m : Byte) (fb : FrameBuffer) (h : fb.mustResync = true) :
    fb.get m = skipTo m fb.q.tail := by
  induction hn : fb.q.length using Nat.strong_induction_on generalizing fb with
  | _ n ih =>
    subst hn
    rcases fb.resync_cases m with ⟨hnone, hresync⟩ | ⟨pre, post, htail, hfirst, hresync⟩
    · rw [FrameBuffer.get_of_not_found h (by rw [hresync]), skipTo_of_none (firstExtractable_of_not_mem hnone)]
    · have hfound : (fb.resync m).1 = true := by rw [hresync]
      have hshorter := FrameBuffer.resync_shorter hfound
      have hsearch : firstExtractable m fb.q.tail = firstExtractable m (m :: post) := by
        rw [htail, firstExtractable_append_of_not_mem hfirst]
      rw [hresync] at hshorter
      rw [FrameBuffer.get_of_found h hfound, hresync]
      by_cases hhead : HeadExtractable (m :: post)
      · rw [firstExtractable_of_head hhead] at hsearch
        rw [skipTo_of_some hsearch]
        exact derivedBuffer_get_of_head hhead
      · rw [firstExtractable_of_not_head hhead] at hsearch
        rw [ih _ hshorter _ (derivedBuffer_mustResync_of_not_head hhead) rfl, skipTo, skipTo, hsearch]
        rfl

/-- Settles O43. -/
theorem getSkipsToExtractableMarker : Obligations.GetSkipsToExtractableMarker := by
  intro m fb htest
  have hget := FrameBuffer.get_eq_skipTo m fb ((FrameBuffer.mustResync_iff fb).2 htest)
  exact ⟨fun hnone => hget.trans (skipTo_of_none hnone), fun q hq => hget.trans (skipTo_of_some hq)⟩

/-! The three conceptual states. -/

theorem bufferState_eq_frameReady_iff (fb : FrameBuffer) : fb.bufferState = .frameReady ↔ fb.avail = true := by
  unfold FrameBuffer.bufferState
  split_ifs with ha
  · simp [ha]
  · simp [ha]
  · simp [ha]

theorem bufferState_eq_empty_iff (fb : FrameBuffer) : fb.bufferState = .empty ↔ fb.avail = false ∧ fb.q = [] := by
  unfold FrameBuffer.bufferState
  split_ifs with ha hq
  · simp [ha]
  · simp [ha, hq]
  · simp [hq]

/-- Bytes joining the tail do not make an available buffer unavailable. -/
theorem derivedBuffer_avail_append {q : List Byte} (h : (derivedBuffer q).avail = true) (c : List Byte) :
    (derivedBuffer (q ++ c)).avail = true := by
  rw [derivedBuffer_avail_iff] at h ⊢
  rw [List.length_append]
  rcases h with ⟨h0, hq⟩ | hq
  · rw [declaredSize_append h0]
    exact .inl ⟨h0, by omega⟩
  · exact .inr (by omega)

theorem FrameBuffer.get_none {m : Byte} {fb : FrameBuffer} (h : (fb.get m).1 = none) :
    (fb.get m).2 = FrameBuffer.empty := by
  rcases fb.get_cases m with hget | ⟨_, _, _, _, _, _, _, hget⟩ <;> rw [hget] at h ⊢
  cases h

/-- Settles O45: each transition by what the operation leaves queued and available. -/
theorem bufferStateTransitions : Obligations.BufferStateTransitions := by
  intro p fb hi
  refine ⟨rfl, fun chunk fb' hne hadd => ⟨fun hempty => ?_, fun hready => ?_⟩, fun hready h3 h64 => ?_, fun hnone => ?_,
    fun hlost => ?_, fun hfound => ?_, rfl⟩
  · have hq := ((bufferState_eq_empty_iff fb').1 hempty).2
    rw [FrameBuffer.add_q hadd, List.append_eq_nil_iff] at hq
    exact hne hq.2
  · rw [bufferState_eq_frameReady_iff] at hready ⊢
    rw [(bufferInvariant_iff fb).1 hi] at hadd hready
    rw [FrameBuffer.add_derivedBuffer hadd]
    exact derivedBuffer_avail_append hready chunk
  · have hmet := hi.1.1 ((bufferState_eq_frameReady_iff fb).1 hready)
    rw [FrameBuffer.get_of_met (by omega) h64 (by omega)]
    rfl
  · rw [FrameBuffer.get_none hnone]
    rfl
  · rcases fb.resync_cases p.marker with ⟨_, h⟩ | ⟨_, _, _, _, h⟩ <;> rw [h] at hlost ⊢
    · rfl
    · cases hlost
  · rcases fb.resync_cases p.marker with ⟨_, h⟩ | ⟨_, post, _, _, h⟩ <;> rw [h] at hfound ⊢
    · cases hfound
    · refine ⟨fun hempty => ?_, rfl⟩
      cases ((bufferState_eq_empty_iff _).1 hempty).2

/-! Complete frames in the buffer. -/

/-- A complete frame at the head declares its own length, whatever is queued behind it. -/
theorem declaredSize_of_isFrame {f : List Byte} (h : IsFrame f) (rest : List Byte) :
    declaredSize (f ++ rest) = f.length := by
  obtain ⟨h3, h64, d, hd, hlen⟩ := h
  rcases declaredSize_cases (f ++ rest) with ⟨_, hbad⟩ | ⟨_, d', hd', hsize, _⟩
  · have hout := hbad d (by rw [List.getElem?_append_left (by omega), hd]) (by rw [List.length_append]; omega)
    omega
  · rw [List.getElem?_append_left (by omega), hd, Option.some.injEq] at hd'
    rw [hsize, hlen, hd']

/-- A run of bytes as long as the queue declares is a complete frame. -/
theorem isFrame_of_length_eq_declaredSize {raw rest : List Byte} (h1 : 1 ≤ raw.length) (h64 : raw.length ≤ 64)
    (h : raw.length = declaredSize (raw ++ rest)) : IsFrame raw := by
  rcases declaredSize_cases (raw ++ rest) with ⟨h0, _⟩ | ⟨_, d, hd, hsize, hpos, _⟩
  · omega
  · rw [List.getElem?_append_left (by omega)] at hd
    exact ⟨by omega, h64, d, hd, by omega⟩

/-- `FB_GET` takes a complete frame off the head. -/
theorem derivedBuffer_get_of_isFrame {f : List Byte} (h : IsFrame f) (m : Byte) (rest : List Byte) :
    (derivedBuffer (f ++ rest)).get m = (some f, derivedBuffer rest) := by
  have hsize := declaredSize_of_isFrame h rest
  obtain ⟨h3, h64, _⟩ := h
  rw [derivedBuffer_get_of_head ⟨by omega, by omega, by rw [hsize, List.length_append]; omega⟩, hsize,
    List.take_left, List.drop_left]

/-- Every image that leaves a buffer with the invariant is a complete frame (R101). -/
theorem isFrame_of_get {m : Byte} {fb : FrameBuffer} {raw : List Byte} (hi : BufferInvariant fb)
    (h : (fb.get m).1 = some raw) : IsFrame raw := by
  rcases fb.get_cases m with hget | ⟨lost, raw', rest, hq, h1, h64, hsize, hget⟩ <;> rw [hget] at h <;> cases h
  refine isFrame_of_length_eq_declaredSize h1 h64 (rest := rest) ?_
  rcases hsize with ⟨hsize, rfl⟩ | hsize
  · rw [hsize, (bufferInvariant_iff fb).1 hi, derivedBuffer_size, hq, List.nil_append]
  · exact hsize

/-! Images by their parts: two head bytes, the checked body, the stored checksum. -/

theorem checksumGood_iff_of_parts (a d c : Byte) (body : List Byte) :
    checksumGood (a :: d :: (body ++ [c])) ↔ c = loopCrc 0xD5 body := by
  have hlast : (a :: d :: (body ++ [c]))[(a :: d :: (body ++ [c])).length - 1]? = some c := by
    simp [List.length_append]
  have hbody : ((a :: d :: (body ++ [c])).drop 2).take ((a :: d :: (body ++ [c])).length - 3) = body := by
    simp [List.length_append]
  rw [checksumGood, hlast, hbody, Option.some.injEq]

theorem envNew_ok_of_parts {body : List Byte} {c : Byte} (a d : Byte) (hbody : body ≠ [])
    (hc : c = loopCrc 0xD5 body) : envNew (a :: d :: (body ++ [c])) = .ok () := by
  have hpos := List.length_pos_iff.2 hbody
  refine envNew_of_checksumGood ?_ ((checksumGood_iff_of_parts a d c body).2 hc)
  simp only [List.length_cons, List.length_append, List.length_nil]
  omega

theorem envNew_corrupted_of_parts {body : List Byte} {c : Byte} (a d : Byte) (hbody : body ≠ [])
    (hc : c ≠ loopCrc 0xD5 body) : envNew (a :: d :: (body ++ [c])) = .error .corruptedFrame := by
  have hpos := List.length_pos_iff.2 hbody
  refine envNew_of_not_checksumGood ?_ (mt (checksumGood_iff_of_parts a d c body).1 hc)
  simp only [List.length_cons, List.length_append, List.length_nil]
  omega

/-- An image that constructs has these parts, and its stored checksum is the body's. -/
theorem parts_of_envNew_ok {raw : List Byte} (h : envNew raw = .ok ()) :
    ∃ a d body c, raw = a :: d :: (body ++ [c]) ∧ body ≠ [] ∧ c = loopCrc 0xD5 body := by
  have hlen : 4 ≤ raw.length := by
    rcases envNew_cases raw with ⟨_, h'⟩ | ⟨hlen, _⟩ | ⟨hlen, _⟩
    · rw [h'] at h
      cases h
    · exact hlen
    · exact hlen
  match raw, hlen with
  | a :: d :: rest, hlen =>
    have hrest : rest ≠ [] := by
      rintro rfl
      simp at hlen
    have hparts := List.dropLast_append_getLast hrest
    have hbody : rest.dropLast ≠ [] := by
      intro hnil
      rw [hnil] at hparts
      rw [← hparts] at hlen
      simp at hlen
    refine ⟨a, d, rest.dropLast, rest.getLast hrest, by rw [hparts], hbody, ?_⟩
    by_contra hc
    have herror := envNew_corrupted_of_parts a d hbody hc
    rw [hparts, h] at herror
    cases herror

/-- One changed byte of the body or of the stored checksum is detected: the production polynomial is odd. -/
theorem envNew_set_corrupted {raw : List Byte} {i : Nat} {a b : Byte} (h : envNew raw = .ok ()) (ha : raw[i]? = some a)
    (hne : b ≠ a) (hi : 2 ≤ i) : envNew (raw.set i b) = .error .corruptedFrame := by
  obtain ⟨x, d, body, c, rfl, hbody, hc⟩ := parts_of_envNew_ok h
  obtain ⟨j, rfl⟩ : ∃ j, i = j + 2 := ⟨i - 2, by omega⟩
  rw [List.getElem?_cons_succ, List.getElem?_cons_succ] at ha
  rw [List.set_cons_succ, List.set_cons_succ]
  by_cases hj : j < body.length
  · rw [List.getElem?_append_left hj] at ha
    rw [List.set_append_left j b hj]
    refine envNew_corrupted_of_parts x d (by simpa using hbody) ?_
    rw [hc, ← crcFold_eq_loopCrc, ← crcFold_eq_loopCrc]
    exact (crcFold_set_ne (by decide) ha hne).symm
  · have hlast : j = body.length := by
      have hlt := (List.getElem?_eq_some_iff.1 ha).1
      rw [List.length_append, List.length_singleton] at hlt
      omega
    subst hlast
    rw [List.getElem?_append_right le_rfl, Nat.sub_self] at ha
    cases ha
    rw [List.set_append_right _ b le_rfl, Nat.sub_self]
    exact envNew_corrupted_of_parts x d hbody (hc ▸ hne)

/-- The address byte is outside the checked bytes. -/
theorem envNew_set_zero {raw : List Byte} (h : envNew raw = .ok ()) (b : Byte) : envNew (raw.set 0 b) = .ok () := by
  obtain ⟨a, d, body, c, rfl, hbody, hc⟩ := parts_of_envNew_ok h
  exact envNew_ok_of_parts b d hbody hc

/-! What `ENV_BUILD` emits. -/

/-- The outbound image of R99, by its parts. -/
def builtImage (addr type : Byte) (payload : List Byte) : List Byte :=
  addr :: BitVec.ofNat 8 (payload.length + 2) :: ((type :: payload) ++ [loopCrc 0xD5 (type :: payload)])

theorem envBuild_eq_builtImage (addr type : Byte) {payload : List Byte} (h : payload.length ≤ 60) :
    envBuild addr type payload = .ok (builtImage addr type payload) :=
  envBuild_of_le addr type h

theorem length_builtImage (addr type : Byte) (payload : List Byte) :
    (builtImage addr type payload).length = payload.length + 4 := by
  simp [builtImage]

theorem isFrame_builtImage (addr type : Byte) {payload : List Byte} (h : payload.length ≤ 60) :
    IsFrame (builtImage addr type payload) := by
  have hlen := length_builtImage addr type payload
  refine ⟨by omega, by omega, _, rfl, ?_⟩
  rw [hlen, BitVec.toNat_ofNat]
  omega

theorem payloadField_builtImage (addr type : Byte) (payload : List Byte) :
    payloadField (builtImage addr type payload) = payload := by
  rw [payloadField, slice, length_builtImage]
  simp [builtImage]

/-- An image added to the empty buffer comes back whole. -/
theorem get_of_add_empty {p : Params} {raw : List Byte} {fb : FrameBuffer} (hframe : IsFrame raw)
    (hadd : FrameBuffer.empty.add p raw = some fb) (m : Byte) : fb.get m = (some raw, FrameBuffer.empty) := by
  rw [← derivedBuffer_nil] at hadd
  rw [FrameBuffer.add_derivedBuffer hadd, List.nil_append]
  have hget := derivedBuffer_get_of_isFrame hframe m []
  rwa [List.append_nil] at hget

/-- Settles O38: built images by their parts, extracted images by the size the queue declares, changed images by the
checksum's law for odd polynomials. -/
theorem builtFramesAreValid : Obligations.BuiltFramesAreValid := by
  refine ⟨fun addr type payload h => ?_, fun m fb raw hi hget => isFrame_of_get hi hget,
    fun raw i a b h ha hne => ⟨envNew_set_corrupted h ha hne, ?_⟩⟩
  · have hframe := isFrame_builtImage addr type h
    exact ⟨_, envBuild_eq_builtImage addr type h, hframe, envNew_ok_of_parts _ _ (List.cons_ne_nil _ _) rfl,
      payloadField_builtImage addr type payload, fun p fb hadd => get_of_add_empty hframe hadd p.marker⟩
  · rintro rfl
    exact envNew_set_zero h b

end Sys2Proof.Machine

/-! The Frame Processor (45_processor.md R131, R132, R136, R139): the outcomes of `PR_BUILD` and its recovery, the drain
loop of `PR_PROCESS`, the order in which bytes leave, and what is delivered and counted. -/

namespace Sys2Proof.Machine

open Sys2Proof Sys2Proof.Safety

/- One after the other: each proof elaborated at the same time takes a thread of its own. -/
set_option Elab.async false

/-! `PR_BUILD`: what the body does with each answer of the dispatcher, then the operation. -/

theorem Processor.settle_ok {p : Params} {pr : Processor} (f : Frame) (h : pr.processed < 2 ^ p.cntW - 1) :
    pr.settle p (.ok f) = some (some f, ⟨pr.fb, pr.processed + 1, pr.errors⟩) := by
  simp only [Processor.settle, (countUp_eq_some_iff p pr.processed _).2 ⟨h, rfl⟩]

theorem Processor.settle_ok_refused {p : Params} {pr : Processor} (f : Frame) (h : 2 ^ p.cntW - 1 ≤ pr.processed) :
    pr.settle p (.ok f) = none := by
  simp only [Processor.settle, (countUp_eq_none_iff p pr.processed).2 h]

theorem Processor.settle_swallowed {p : Params} {pr : Processor} {e : ErrorKind} (he : ErrorKind.counted e = false) :
    pr.settle p (.error e) = some (none, pr) := by
  simp [Processor.settle, he]

theorem Processor.settle_counted {p : Params} {pr : Processor} {e : ErrorKind} (he : ErrorKind.counted e = true)
    (h : pr.errors < 2 ^ p.cntW - 1) :
    pr.settle p (.error e) = some (none, ⟨(pr.fb.resync p.marker).2, pr.processed, pr.errors + 1⟩) := by
  simp only [Processor.settle, he, if_true, (Processor.recover_eq_some_iff p pr _).2 ⟨h, rfl⟩]

theorem Processor.settle_counted_refused {p : Params} {pr : Processor} {e : ErrorKind}
    (he : ErrorKind.counted e = true) (h : 2 ^ p.cntW - 1 ≤ pr.errors) : pr.settle p (.error e) = none := by
  simp only [Processor.settle, he, if_true, (Processor.recover_eq_none_iff p pr).2 h]

/-- With both counters under their maximum every answer of the dispatcher is settled. -/
theorem Processor.settle_isSome {p : Params} {pr : Processor} (hp : pr.processed < 2 ^ p.cntW - 1)
    (he : pr.errors < 2 ^ p.cntW - 1) (a : Except ErrorKind Frame) : ∃ f pr', pr.settle p a = some (f, pr') := by
  cases a with
  | ok f => exact ⟨_, _, Processor.settle_ok f hp⟩
  | error e =>
    cases hc : ErrorKind.counted e with
    | true => exact ⟨_, _, Processor.settle_counted hc he⟩
    | false => exact ⟨_, _, Processor.settle_swallowed hc⟩

theorem Processor.build_of_get_none {p : Params} {pr : Processor} {fb : FrameBuffer}
    (h : pr.fb.get p.marker = (none, fb)) : pr.build p = some (none, pr.withBuffer fb) := by
  rw [Processor.build, h]

theorem Processor.build_of_get_some {p : Params} {pr : Processor} {raw : List Byte} {fb : FrameBuffer}
    (h : pr.fb.get p.marker = (some raw, fb)) : pr.build p = (pr.withBuffer fb).settle p (dispGen p raw) := by
  rw [Processor.build, h]

theorem prBuild_answers {s : State} {f : Option Frame} {pr : Processor} (h : s.pr.build s.params = some (f, pr)) :
    Answers .prBuild s pr s.sink .ok (frameResult f) := by
  rcases execPrBuild_cases s with ⟨hnone, _⟩ | ⟨f', pr', hsome, hexec⟩
  · rw [h] at hnone
    cases hnone
  · rw [h] at hsome
    cases hsome
    exact hexec

theorem prBuild_isRefused {s : State} (h : s.pr.build s.params = none) : IsRefused .prBuild s := by
  rcases execPrBuild_cases s with ⟨_, hexec⟩ | ⟨_, _, hsome, _⟩
  · exact hexec
  · rw [h] at hsome
    cases hsome

/-- Settles O51: nothing extracted, then the dispatcher's answer settled in each of its ways. -/
theorem buildOutcomes : Obligations.BuildOutcomes := by
  refine ⟨rfl, fun s fb => ⟨fun hget => prBuild_answers (Processor.build_of_get_none hget), fun raw hget => ?_⟩⟩
  have hbuild := Processor.build_of_get_some hget
  refine ⟨fun f hf hroom => ?_, fun f hf hfull => ?_, fun e he hswallowed => ?_⟩
  · rw [hf] at hbuild
    exact prBuild_answers (hbuild.trans (Processor.settle_ok f hroom))
  · rw [hf] at hbuild
    exact prBuild_isRefused (hbuild.trans (Processor.settle_ok_refused f hfull))
  · have hnot : ErrorKind.counted e = false := by
      rcases hswallowed with rfl | rfl <;> rfl
    rw [he] at hbuild
    exact prBuild_answers (hbuild.trans (Processor.settle_swallowed hnot))

/-- Settles O52: the errors of code 1 to 4 are the counted ones, and settling one recovers. -/
theorem recoverySequence : Obligations.RecoverySequence := by
  intro s raw fb e hget he hlow hhigh
  have hcounted := (counted_iff e).2 ⟨hlow, hhigh⟩
  have hbuild := Processor.build_of_get_some hget
  rw [he] at hbuild
  exact ⟨fun hroom => prBuild_answers (hbuild.trans (Processor.settle_counted hcounted hroom)),
    fun hfull => prBuild_isRefused (hbuild.trans (Processor.settle_counted_refused hcounted hfull))⟩

/-! `PR_PROCESS` and its loop. -/

theorem prProcess_isRefused {s : State} (h : s.pr.process s.params s.ops.chunk = none) : IsRefused .prProcess s := by
  rcases execPrProcess_cases s with ⟨_, hexec⟩ | ⟨_, _, hsome, _⟩
  · exact hexec
  · rw [h] at hsome
    cases hsome

theorem Processor.process_of_add_none {p : Params} {c : List Byte} {pr : Processor} (h : pr.fb.add p c = none) :
    pr.process p c = none := by
  rw [Processor.process, h]

theorem Processor.process_of_add_some {p : Params} {c : List Byte} {pr : Processor} {fb : FrameBuffer}
    (h : pr.fb.add p c = some fb) : pr.process p c = (pr.withBuffer fb).drain p := by
  rw [Processor.process, h]

/-- Settles O53: the chunk's addition, then the drain decide; the loop's recursion is the drain's. -/
theorem processDrainsWhileAvailable : Obligations.ProcessDrainsWhileAvailable := by
  refine ⟨rfl, fun s => ⟨fun hadd => prProcess_isRefused (Processor.process_of_add_none hadd), fun fb hadd =>
    ⟨fun hdrain => prProcess_isRefused ((Processor.process_of_add_some hadd).trans hdrain), fun fs pr hdrain =>
      ⟨prProcess_answers hadd hdrain, Processor.drain_not_avail hdrain⟩⟩⟩,
    fun _ _ => Processor.drain_of_not_avail, fun _ _ => Processor.drain_of_refused, fun _ _ _ _ =>
    Processor.drain_of_build⟩

theorem not_avail_of_nil {fb : FrameBuffer} (hi : BufferInvariant fb) (hq : fb.q = []) : fb.avail = false := by
  by_contra ha
  have h3 := available_empty hi (by simpa using ha)
  rw [hq] at h3
  simp at h3

/-- Settles O55: an available buffer is not empty, so each round shortens the queue, and a round less is enough for a
byte less. -/
theorem drainTerminates : Obligations.DrainTerminates := by
  intro p pr hi
  refine ⟨available_empty hi, fun f pr' ha hbuild => Processor.build_shorter hbuild ?_, fun n hn => ?_⟩
  · have h3 := available_empty hi ha
    exact List.length_pos_iff.1 (by omega)
  · induction n generalizing pr with
    | zero => exact (Processor.drain_of_not_avail (not_avail_of_nil hi (List.length_eq_zero_iff.1 (by omega)))).symm
    | succ n ih =>
      cases ha : pr.fb.avail with
      | false =>
        rw [Processor.drain_of_not_avail ha, Processor.drainWithin, ha]
        rfl
      | true =>
        have h3 := available_empty hi ha
        rcases hbuild : pr.build p with _ | ⟨f, pr'⟩
        · simp only [Processor.drain_of_refused ha hbuild, Processor.drainWithin, ha, if_true, hbuild]
        · have hshorter := Processor.build_shorter hbuild (List.length_pos_iff.1 (by omega))
          rw [Processor.drain_of_build ha hbuild, ← ih pr' (Processor.build_invariant hbuild) (by omega)]
          simp only [Processor.drainWithin, ha, if_true, hbuild]
          cases Processor.drainWithin p n pr' <;> rfl

/-! A drain completes while the counters have room for the queued bytes. -/

theorem Processor.build_isSome {p : Params} {pr : Processor}
    (h : pr.fb.q ≠ [] → pr.processed < 2 ^ p.cntW - 1 ∧ pr.errors < 2 ^ p.cntW - 1) :
    ∃ f pr', pr.build p = some (f, pr') := by
  rcases pr.fb.get_cases p.marker with hget | ⟨lost, raw, rest, hq, h1, _, _, hget⟩
  · exact ⟨_, _, Processor.build_of_get_none hget⟩
  · have hne : pr.fb.q ≠ [] := by
      refine List.length_pos_iff.1 ?_
      rw [hq, List.length_append, List.length_append]
      omega
    obtain ⟨hp, he⟩ := h hne
    rw [Processor.build_of_get_some hget]
    exact Processor.settle_isSome (pr := pr.withBuffer (derivedBuffer rest)) hp he _

/-- A build adds at most one to each counter. -/
theorem Processor.build_counts_le {p : Params} {pr pr' : Processor} {f : Option Frame}
    (h : pr.build p = some (f, pr')) : pr'.processed ≤ pr.processed + 1 ∧ pr'.errors ≤ pr.errors + 1 := by
  rcases Processor.build_cases h with ⟨_, _, rfl⟩ | ⟨_, _, ⟨_, _, _, _, rfl⟩ | ⟨_, _, _, _, _, rfl⟩ | ⟨_, _, _, _, rfl⟩⟩
  · exact ⟨Nat.le_succ _, Nat.le_succ _⟩
  · exact ⟨le_rfl, Nat.le_succ _⟩
  · exact ⟨Nat.le_succ _, le_rfl⟩
  · exact ⟨Nat.le_succ _, Nat.le_succ _⟩

theorem Processor.drain_isSome {p : Params} (pr : Processor) (hp : pr.processed + pr.fb.q.length ≤ 2 ^ p.cntW - 1)
    (he : pr.errors + pr.fb.q.length ≤ 2 ^ p.cntW - 1) : ∃ fs pr', pr.drain p = some (fs, pr') := by
  induction hn : pr.fb.q.length using Nat.strong_induction_on generalizing pr with
  | _ n ih =>
    subst hn
    cases ha : pr.fb.avail with
    | false => exact ⟨_, _, Processor.drain_of_not_avail ha⟩
    | true =>
      have hroom : pr.fb.q ≠ [] → pr.processed < 2 ^ p.cntW - 1 ∧ pr.errors < 2 ^ p.cntW - 1 := fun hne => by
        have hpos := List.length_pos_iff.2 hne
        omega
      obtain ⟨f, pr', hbuild⟩ := Processor.build_isSome hroom
      have hrest : ∃ fs pr'', pr'.drain p = some (fs, pr'') := by
        by_cases hq : pr.fb.q = []
        · obtain ⟨lost, hlost⟩ := Processor.build_suffix hbuild
          rw [hq] at hlost
          obtain ⟨_, hq'⟩ := List.append_eq_nil_iff.1 hlost.symm
          exact ⟨_, _, Processor.drain_of_not_avail (not_avail_of_nil (Processor.build_invariant hbuild) hq')⟩
        · have hshorter := Processor.build_shorter hbuild hq
          obtain ⟨hp', he'⟩ := Processor.build_counts_le hbuild
          exact ih _ hshorter pr' (by omega) (by omega) rfl
      obtain ⟨fs, pr'', hdrain⟩ := hrest
      exact ⟨f.toList ++ fs, pr'', by rw [Processor.drain_of_build ha hbuild, hdrain]; rfl⟩

theorem FrameBuffer.add_isSome {p : Params} {c : List Byte} {fb : FrameBuffer}
    (hroom : ∀ cap, p.qCap = some cap → fb.q.length + c.length ≤ cap) : ∃ fb', fb.add p c = some fb' := by
  by_cases hc : c = []
  · subst hc
    exact ⟨fb, rfl⟩
  · exact ⟨_, FrameBuffer.add_of_fits hc hroom⟩

/-- Settles O54: the chunk has room, each round shortens the queue by as much as it can count, and the drain stops. -/
theorem processCompletes : Obligations.ProcessCompletes := by
  intro s hroom hp he
  obtain ⟨fb, hadd⟩ := FrameBuffer.add_isSome hroom
  have hlen : fb.q.length = s.pr.fb.q.length + s.ops.chunk.length := by
    rw [FrameBuffer.add_q hadd, List.length_append]
  obtain ⟨fs, pr, hdrain⟩ := Processor.drain_isSome (p := s.params) { s.pr with fb := fb } (by simp only; omega)
    (by simp only; omega)
  exact ⟨pr, fs, prProcess_answers hadd hdrain, Processor.drain_not_avail hdrain⟩

/-! What a round delivers, and what a drain delivers. -/

/-- A frame that a build returns is the dispatcher's answer to its own bytes, and those left the queue in that build. -/
theorem Processor.build_delivers {p : Params} {pr pr' : Processor} {f : Option Frame}
    (h : pr.build p = some (f, pr')) :
    (∀ fr ∈ f.toList, dispGen p fr.raw = .ok fr) ∧
    ∃ lost, pr.fb.q = lost ++ pr'.fb.q ∧ ((f.toList.map Frame.raw).flatten).Sublist lost := by
  have hnone : ∀ {f : Option Frame}, f = none → (∀ fr ∈ f.toList, dispGen p fr.raw = .ok fr) ∧
      ∀ lost, ((f.toList.map Frame.raw).flatten).Sublist lost := by
    rintro _ rfl
    exact ⟨nofun, List.nil_sublist⟩
  obtain ⟨lost, hlost⟩ := Processor.build_suffix h
  rcases Processor.build_cases h with ⟨_, hf, _⟩ | ⟨raw, hraw, ⟨fr, hdisp, rfl, _, rfl⟩ | ⟨_, _, _, hf, _⟩ | ⟨_, _, _, hf, _⟩⟩
  · exact ⟨(hnone hf).1, lost, hlost, (hnone hf).2 lost⟩
  · obtain rfl := dispGen_raw hdisp
    refine ⟨by simpa using hdisp, ?_⟩
    rcases pr.fb.get_cases p.marker with hget | ⟨before, raw, rest, hq, _, _, _, hget⟩
    · rw [hget] at hraw
      cases hraw
    · rw [hget] at hraw ⊢
      cases hraw
      exact ⟨before ++ fr.raw, hq, by simp⟩
  · exact ⟨(hnone hf).1, lost, hlost, (hnone hf).2 lost⟩
  · exact ⟨(hnone hf).1, lost, hlost, (hnone hf).2 lost⟩

/-- The bytes of the delivered frames are, in order, among the bytes that left the queue. -/
theorem Processor.drain_delivers_in_order {p : Params} {pr pr' : Processor} {fs : List Frame}
    (h : pr.drain p = some (fs, pr')) :
    ∃ gone, pr.fb.q = gone ++ pr'.fb.q ∧ ((fs.map Frame.raw).flatten).Sublist gone := by
  refine Processor.drain_induction
    (motive := fun pr fs pr'' => ∃ gone, pr.fb.q = gone ++ pr''.fb.q ∧ ((fs.map Frame.raw).flatten).Sublist gone)
    (fun pr _ => ⟨[], rfl, List.nil_sublist _⟩) ?_ h
  rintro pr f pr₁ fs pr₂ _ hbuild ⟨gone, hq, hsub⟩
  obtain ⟨_, lost, hlost, hhead⟩ := Processor.build_delivers hbuild
  refine ⟨lost ++ gone, by rw [hlost, hq, List.append_assoc], ?_⟩
  rw [List.map_append, List.flatten_append]
  exact hhead.append hsub

/-- Each delivery is counted once, and is the dispatcher's answer. -/
theorem Processor.drain_counts {p : Params} {pr pr' : Processor} {fs : List Frame} (h : pr.drain p = some (fs, pr')) :
    pr'.processed = pr.processed + fs.length ∧ pr.errors ≤ pr'.errors ∧ ∀ f ∈ fs, dispGen p f.raw = .ok f := by
  refine Processor.drain_induction (motive := fun pr fs pr'' => pr''.processed = pr.processed + fs.length ∧
    pr.errors ≤ pr''.errors ∧ ∀ f ∈ fs, dispGen p f.raw = .ok f) (fun pr _ => ⟨rfl, le_rfl, nofun⟩) ?_ h
  rintro pr f pr₁ fs pr₂ _ hbuild ⟨hprocessed, herrors, hdisp⟩
  obtain ⟨hprocessed₁, herrors₁, _, _⟩ := Processor.build_counts hbuild
  obtain ⟨hhead, _⟩ := Processor.build_delivers hbuild
  refine ⟨by rw [hprocessed, hprocessed₁, List.length_append, Nat.add_assoc], herrors₁.trans herrors, fun fr hfr => ?_⟩
  rcases List.mem_append.1 hfr with hfr | hfr
  · exact hhead fr hfr
  · exact hdisp fr hfr

/-- What `PR_PROCESS` has done: refused whole, or added the chunk and drained the buffer. -/
theorem prProcess_cases {s t : State} (h : exec .prProcess s = .next t) :
    (t.pr = s.pr ∧ t.sink = s.sink ∧ t.response = some ⟨.refused, .nothing⟩) ∨
    ∃ fb fs, s.pr.fb.add s.params s.ops.chunk = some fb ∧
      Processor.drain s.params { s.pr with fb := fb } = some (fs, t.pr) ∧ t.sink = s.sink ++ fs := by
  rcases execPrProcess_cases s with ⟨_, hexec⟩ | ⟨fs, pr, hprocess, hexec⟩
  · obtain rfl := next_unique h hexec
    exact .inl ⟨rfl, rfl, rfl⟩
  · obtain rfl := next_unique h hexec
    obtain ⟨fb, hadd, hdrain⟩ := Processor.process_eq_some_iff.1 hprocess
    exact .inr ⟨fb, fs, hadd, hdrain, rfl⟩

/-- Settles O56. -/
theorem deliveriesAreCounted : Obligations.DeliveriesAreCounted := by
  intro s t h hok
  rcases prProcess_cases h with ⟨_, _, hrefused⟩ | ⟨fb, fs, _, hdrain, hsink⟩
  · rw [hok] at hrefused
    cases hrefused
  · obtain ⟨hprocessed, herrors, hdisp⟩ := Processor.drain_counts hdrain
    exact ⟨fs, hsink, hprocessed, herrors, hdisp⟩

/-- What `FB_GET` returns stands just before what it leaves. -/
theorem fbGet_in_order {s t : State} (h : exec .fbGet s = .next t) :
    (∃ lost raw, t.response = some ⟨.ok, .bytes raw⟩ ∧ s.pr.fb.q = lost ++ raw ++ t.pr.fb.q) ∨
    (t.response = some ⟨.ok, .absent⟩ ∧ t.pr.fb.q = []) := by
  rcases s.pr.fb.get_cases s.params.marker with hget | ⟨lost, raw, rest, hq, _, _, _, hget⟩
  · obtain rfl := eq_of_answers_of_exec (fbGet_answers hget) h
    exact .inr ⟨rfl, rfl⟩
  · obtain rfl := eq_of_answers_of_exec (fbGet_answers hget) h
    exact .inl ⟨lost, raw, rfl, hq⟩

/-- Settles O46: each operation leaves an end of the queue, and the drain's deliveries are runs of what left. -/
theorem bytesLeaveInArrivalOrder : Obligations.BytesLeaveInArrivalOrder := by
  refine ⟨fun s t h => ?_, fun _ _ => fbGet_in_order, fun s t h => ?_, fun s t h => ?_, fun s t h => ?_⟩
  · rcases execFbAdd_cases s with ⟨_, hexec⟩ | ⟨fb, hadd, hexec⟩
    · obtain rfl := next_unique h hexec
      exact .inr ⟨rfl, rfl⟩
    · obtain rfl := next_unique h hexec
      exact .inl (FrameBuffer.add_q hadd)
  · obtain rfl := eq_of_answers_of_exec (fbResync_answers rfl) h
    exact FrameBuffer.resync_suffix _ _
  · rcases execPrBuild_cases s with ⟨_, hexec⟩ | ⟨f, pr, hbuild, hexec⟩
    · obtain rfl := next_unique h hexec
      exact ⟨[], rfl⟩
    · obtain rfl := next_unique h hexec
      exact Processor.build_suffix hbuild
  · rcases prProcess_cases h with hrefused | ⟨fb, fs, hadd, hdrain, hsink⟩
    · exact .inr hrefused
    · obtain ⟨gone, hq, hsub⟩ := Processor.drain_delivers_in_order hdrain
      exact .inl ⟨gone, fs, (FrameBuffer.add_q hadd).symm.trans hq, hsink, hsub⟩

end Sys2Proof.Machine

/-! Streams of complete frames (43_frame_buffer.md R118, 45_processor.md R131(c), R132(a)): however the bytes are cut
into chunks, the buffer gives back the frames and the processor delivers those the dispatcher accepts. -/

namespace Sys2Proof.Machine

open Sys2Proof Sys2Proof.Safety

/- One after the other: each proof elaborated at the same time takes a thread of its own. -/
set_option Elab.async false

/-! The bytes of complete frames, cut anywhere. -/

/-- A buffer that holds a complete frame at its head is available. -/
theorem avail_of_isFrame {f : List Byte} (h : IsFrame f) (rest : List Byte) :
    (derivedBuffer (f ++ rest)).avail = true := by
  have hsize := declaredSize_of_isFrame h rest
  obtain ⟨h3, _⟩ := h
  rw [derivedBuffer_avail_iff, hsize, List.length_append]
  exact .inl ⟨by omega, by omega⟩

/-- A buffer that holds less than the frame its bytes begin is not available. -/
theorem not_avail_of_incomplete {q rest : List Byte} (h : IsFrame (q ++ rest)) (hrest : rest ≠ []) :
    (derivedBuffer q).avail = false := by
  have hsize := declaredSize_of_isFrame h []
  obtain ⟨_, h64, _⟩ := h
  have hpos := List.length_pos_iff.2 hrest
  rw [List.append_nil] at hsize
  rw [List.length_append] at h64 hsize
  rw [← Bool.not_eq_true, derivedBuffer_avail_iff]
  rintro (⟨h0, hq⟩ | hq)
  · rw [declaredSize_append h0] at hsize
    omega
  · omega

/-- Where the head of a queue of complete frames stands: a whole frame is there, or nothing is available. -/
theorem head_of_frames {q rest : List Byte} {frames : List (List Byte)} (hframes : ∀ f ∈ frames, IsFrame f)
    (h : q ++ rest = frames.flatten) :
    (derivedBuffer q).avail = false ∨
    ∃ f frames' q', frames = f :: frames' ∧ q = f ++ q' ∧ q' ++ rest = frames'.flatten := by
  cases frames with
  | nil =>
    obtain ⟨rfl, _⟩ := List.append_eq_nil_iff.1 h
    exact .inl rfl
  | cons f frames' =>
    rw [List.flatten_cons] at h
    rcases List.append_eq_append_iff.1 h with ⟨more, hf, hrest⟩ | ⟨q', hq, htail⟩
    · by_cases hmore : more = []
      · subst hmore
        exact .inr ⟨f, frames', [], rfl, by rw [hf]; simp, hrest⟩
      · exact .inl (not_avail_of_incomplete (hf ▸ hframes f List.mem_cons_self) hmore)
    · exact .inr ⟨f, frames', q', rfl, hq, htail.symm⟩

/-- A queue of complete frames is cut at the last whole frame it holds, and behind that nothing is available. -/
theorem exists_split_of_frames {rest : List Byte} : ∀ {frames : List (List Byte)} {q : List Byte},
    (∀ f ∈ frames, IsFrame f) → q ++ rest = frames.flatten →
    ∃ xs frames' q', frames = xs ++ frames' ∧ q = xs.flatten ++ q' ∧ q' ++ rest = frames'.flatten ∧
      (derivedBuffer q').avail = false
  | [], q, hframes, h => by
    rcases head_of_frames hframes h with hstop | ⟨_, _, _, hnil, _⟩
    · exact ⟨[], [], q, rfl, rfl, h, hstop⟩
    · cases hnil
  | f :: frames, q, hframes, h => by
    rcases head_of_frames hframes h with hstop | ⟨_, _, q', hcons, hq, htail⟩
    · exact ⟨[], f :: frames, q, rfl, rfl, h, hstop⟩
    · cases hcons
      obtain ⟨xs, frames', q'', hxs, hq', htail', hstop⟩ :=
        exists_split_of_frames (fun g hg => hframes g (List.mem_cons_of_mem _ hg)) htail
      refine ⟨f :: xs, frames', q'', by rw [hxs, List.cons_append], ?_, htail', hstop⟩
      rw [hq, hq', List.flatten_cons, List.append_assoc]

/-- A queue `q` that waits for the rest of the complete frames `frames`, which `chunks` will bring, each within `Q_CAP`;
nothing is available in between (the schedule of R118). -/
structure HeldStream (p : Params) (q : List Byte) (chunks frames : List (List Byte)) : Prop where
  notAvail : (derivedBuffer q).avail = false
  bytes : q ++ chunks.flatten = frames.flatten
  complete : ∀ f ∈ frames, IsFrame f
  room : ∀ cap, p.qCap = some cap → q.length + chunks.flatten.length ≤ cap

/-- When no chunk is left to come, no frame is. -/
theorem HeldStream.finished {p : Params} {q : List Byte} {frames : List (List Byte)} (h : HeldStream p q [] frames) :
    frames = [] ∧ q = [] := by
  have hbytes : q = frames.flatten := by simpa using h.bytes
  cases frames with
  | nil => exact ⟨rfl, hbytes⟩
  | cons f frames =>
    have havail := avail_of_isFrame (h.complete f List.mem_cons_self) frames.flatten
    rw [← List.flatten_cons, ← hbytes, h.notAvail] at havail
    cases havail

theorem add_derivedBuffer_of_fits {p : Params} {q c : List Byte}
    (hroom : ∀ cap, p.qCap = some cap → q.length + c.length ≤ cap) :
    (derivedBuffer q).add p c = some (derivedBuffer (q ++ c)) := by
  obtain ⟨fb, hadd⟩ := FrameBuffer.add_isSome (fb := derivedBuffer q) hroom
  rw [hadd, FrameBuffer.add_derivedBuffer hadd]

/-- A chunk joins the queue and completes some frames; the bytes behind them wait for the other chunks. -/
theorem HeldStream.chunk {p : Params} {q c : List Byte} {chunks frames : List (List Byte)}
    (h : HeldStream p q (c :: chunks) frames) :
    ∃ xs frames' q', frames = xs ++ frames' ∧ (derivedBuffer q).add p c = some (derivedBuffer (xs.flatten ++ q')) ∧
      HeldStream p q' chunks frames' := by
  obtain ⟨_, hbytes, hframes, hroom⟩ := h
  rw [List.flatten_cons, ← List.append_assoc] at hbytes
  rw [List.flatten_cons, List.length_append] at hroom
  obtain ⟨xs, frames', q', rfl, hq, htail, hstop⟩ := exists_split_of_frames hframes hbytes
  refine ⟨xs, frames', q', rfl, ?_, hstop, htail, fun f hf => hframes f (List.mem_append_right _ hf),
    fun cap hcap => ?_⟩
  · rw [← hq]
    refine add_derivedBuffer_of_fits fun cap hcap => ?_
    have hcap := hroom cap hcap
    omega
  · have hlen := congrArg List.length hq
    have hcap := hroom cap hcap
    rw [List.length_append, List.length_append] at hlen
    omega

/-! Extraction alone: R118's schedule on a buffer. -/

/-- Extracting while available takes whole frames off the head, one per round. -/
theorem extractAll_of_frames (m : Byte) {q : List Byte} (hstop : (derivedBuffer q).avail = false) :
    ∀ (xs : List (List Byte)) (n : Nat), (∀ f ∈ xs, IsFrame f) → xs.length < n →
      extractAll m n (derivedBuffer (xs.flatten ++ q)) = (xs, derivedBuffer q)
  | [], n + 1, _, _ => by
    rw [List.flatten_nil, List.nil_append, extractAll, hstop]
    rfl
  | f :: xs, n + 1, hframes, hn => by
    have hf := hframes f List.mem_cons_self
    rw [List.flatten_cons, List.append_assoc, extractAll, if_pos (avail_of_isFrame hf _),
      derivedBuffer_get_of_isFrame hf, extractAll_of_frames m hstop xs n
        (fun g hg => hframes g (List.mem_cons_of_mem _ hg)) (Nat.lt_of_succ_lt_succ hn)]
    rfl

theorem length_le_length_flatten {xs : List (List Byte)} (h : ∀ f ∈ xs, IsFrame f) : xs.length ≤ xs.flatten.length := by
  induction xs with
  | nil => exact Nat.zero_le _
  | cons f xs ih =>
    obtain ⟨h3, _⟩ := h f List.mem_cons_self
    have htail := ih fun g hg => h g (List.mem_cons_of_mem _ hg)
    rw [List.flatten_cons, List.length_append, List.length_cons]
    omega

theorem feed_of_heldStream {p : Params} : ∀ {chunks : List (List Byte)} {q : List Byte} {frames : List (List Byte)},
    HeldStream p q chunks frames → feed p chunks (derivedBuffer q) = some (frames, FrameBuffer.empty)
  | [], q, frames, h => by
    obtain ⟨rfl, rfl⟩ := h.finished
    rfl
  | c :: chunks, q, frames, h => by
    obtain ⟨xs, frames', q', rfl, hadd, hheld⟩ := h.chunk
    have hxs : ∀ f ∈ xs, IsFrame f := fun f hf => h.complete f (List.mem_append_left _ hf)
    have hrounds : xs.length < (derivedBuffer (xs.flatten ++ q')).q.length + 1 := by
      have hlen := length_le_length_flatten hxs
      rw [derivedBuffer_q, List.length_append]
      omega
    simp only [feed, hadd, extractAll_of_frames p.marker hheld.notAvail xs _ hxs hrounds, feed_of_heldStream hheld]

theorem heldStream_empty {p : Params} {chunks frames : List (List Byte)}
    (hroom : ∀ cap, p.qCap = some cap → chunks.flatten.length ≤ cap) (hframes : ∀ f ∈ frames, IsFrame f)
    (h : chunks.flatten = frames.flatten) : HeldStream p [] chunks frames where
  notAvail := rfl
  bytes := h
  complete := hframes
  room := fun cap hcap => by simpa using hroom cap hcap

/-- Settles O47: chunk by chunk, the frames completed are extracted and the rest waits. -/
theorem chunkingIndependence : Obligations.ChunkingIndependence :=
  fun _ _ _ hroom hframes h => feed_of_heldStream (heldStream_empty hroom hframes h)

/-! The processor on such a stream. -/

/-- A round of the drain on a complete frame at the head: what settling the dispatcher's answer leaves. -/
theorem Processor.drain_of_frame {p : Params} {raw rest : List Byte} {n e : Nat} {f : Option Frame} {pr : Processor}
    (hframe : IsFrame raw)
    (hsettle : Processor.settle p ⟨derivedBuffer rest, n, e⟩ (dispGen p raw) = some (f, pr)) :
    Processor.drain p ⟨derivedBuffer (raw ++ rest), n, e⟩ = (pr.drain p).map (fun x => (f.toList ++ x.1, x.2)) :=
  Processor.drain_of_build (avail_of_isFrame hframe rest)
    ((Processor.build_of_get_some (derivedBuffer_get_of_isFrame hframe p.marker rest)).trans hsettle)

/-- A frame the dispatcher accepts is complete and dispatches to itself. -/
def Accepted (p : Params) (f : Frame) : Prop := IsFrame f.raw ∧ dispGen p f.raw = .ok f

/-- Accepted frames at the head are delivered and counted, as far as the counter goes. -/
theorem Processor.drain_of_frames {p : Params} {q : List Byte} (hstop : (derivedBuffer q).avail = false) (e : Nat) :
    ∀ (fs : List Frame) (n : Nat), (∀ f ∈ fs, Accepted p f) → n + fs.length ≤ 2 ^ p.cntW - 1 →
      Processor.drain p ⟨derivedBuffer ((fs.map Frame.raw).flatten ++ q), n, e⟩ =
        some (fs, ⟨derivedBuffer q, n + fs.length, e⟩)
  | [], n, _, _ => Processor.drain_of_not_avail hstop
  | f :: fs, n, hfs, hn => by
    obtain ⟨hframe, hdisp⟩ := hfs f List.mem_cons_self
    rw [List.length_cons] at hn ⊢
    have hsettle : Processor.settle p ⟨derivedBuffer ((fs.map Frame.raw).flatten ++ q), n, e⟩ (dispGen p f.raw) =
        some (some f, ⟨derivedBuffer ((fs.map Frame.raw).flatten ++ q), n + 1, e⟩) := by
      rw [hdisp]
      exact Processor.settle_ok f (by simp only; omega)
    rw [List.map_cons, List.flatten_cons, List.append_assoc, Processor.drain_of_frame hframe hsettle,
      Processor.drain_of_frames hstop e fs (n + 1) (fun g hg => hfs g (List.mem_cons_of_mem _ hg)) (by omega),
      Nat.add_right_comm, Nat.add_assoc]
    rfl

theorem run_succ_of_step (M : Host.Core) {k : Nat} {s t : M.State} (h : M.step s = .next t) :
    M.run (k + 1) s = M.run k t := by
  rw [Host.Core.run, h]

/-- A `PR_PROCESS` request at the head of the host's list. -/
theorem step_of_processRequest {s : State} {c : List Byte} {rest : List Request}
    (h : s.requests = processRequest c :: rest) :
    step s = exec .prProcess (s.accept (processRequest c) rest) :=
  step_of_decode_ok h rfl

/-- A state whose queue holds a stream of accepted frames that its waiting `PR_PROCESS` requests complete, with room in
the counter. -/
structure StreamState (s : State) (q : List Byte) (chunks : List (List Byte)) (fs : List Frame) : Prop where
  requests : s.requests = chunks.map processRequest
  buffer : s.pr.fb = derivedBuffer q
  held : HeldStream s.params q chunks (fs.map Frame.raw)
  accepted : ∀ f ∈ fs, Accepted s.params f
  counter : s.pr.processed + fs.length ≤ 2 ^ s.params.cntW - 1

/-- One request of the stream: the frames it completes are delivered and counted, and the stream goes on. -/
theorem StreamState.step {s : State} {q c : List Byte} {chunks : List (List Byte)} {fs : List Frame}
    (h : StreamState s q (c :: chunks) fs) :
    ∃ t q' xs fs', step s = .next t ∧ fs = xs ++ fs' ∧ t.sink = s.sink ++ xs ∧
      t.pr.processed = s.pr.processed + xs.length ∧ t.pr.errors = s.pr.errors ∧ StreamState t q' chunks fs' := by
  obtain ⟨hreq, hbuf, hheld, hacc, hcount⟩ := h
  obtain ⟨raws, raws', q', hraws, hadd, hheld'⟩ := hheld.chunk
  obtain ⟨xs, fs', rfl, rfl, rfl⟩ := List.map_eq_append_iff.1 hraws
  rw [List.length_append] at hcount
  have hdrain := Processor.drain_of_frames hheld'.notAvail s.pr.errors xs s.pr.processed
    (fun f hf => hacc f (List.mem_append_left _ hf)) (by omega)
  rw [← hbuf] at hadd
  have hexec := prProcess_answers (s := s.accept (processRequest c) (chunks.map processRequest)) hadd hdrain
  refine ⟨_, q', xs, fs', (step_of_processRequest hreq).trans hexec, rfl, rfl, rfl, rfl, rfl, rfl, hheld',
    fun f hf => hacc f (List.mem_append_right _ hf), ?_⟩
  simp only [State.accept_params]
  omega

theorem run_of_streamState : ∀ {chunks : List (List Byte)} {s : State} {q : List Byte} {fs : List Frame},
    StreamState s q chunks fs → ∃ t, Host.Core.run Sys2Proof.core chunks.length s = .next t ∧
      t.sink = s.sink ++ fs ∧ t.pr = ⟨FrameBuffer.empty, s.pr.processed + fs.length, s.pr.errors⟩ ∧ t.requests = []
  | [], s, q, fs, h => by
    obtain ⟨hfs, rfl⟩ := h.held.finished
    obtain rfl := List.map_eq_nil_iff.1 hfs
    have hpr : s.pr = ⟨FrameBuffer.empty, s.pr.processed, s.pr.errors⟩ := by rw [← derivedBuffer_nil, ← h.buffer]
    exact ⟨s, rfl, (List.append_nil _).symm, hpr, h.requests⟩
  | c :: chunks, s, q, fs, h => by
    obtain ⟨u, q', xs, fs', hstep, rfl, hsink, hprocessed, herrors, hu⟩ := h.step
    obtain ⟨t, hrun, htsink, htpr, htreq⟩ := run_of_streamState hu
    refine ⟨t, (run_succ_of_step Sys2Proof.core hstep).trans hrun, ?_, ?_, htreq⟩
    · rw [htsink, hsink, List.append_assoc]
    · rw [htpr, hprocessed, herrors, List.length_append, Nat.add_assoc]

/-- Settles O57: from reset the stream is held by an empty queue, and each request moves it on. -/
theorem validStreamIsDelivered : Obligations.ValidStreamIsDelivered := by
  intro p fs chunks hroom hcount hfs h
  have hframes : ∀ f ∈ fs.map Frame.raw, IsFrame f := by
    intro raw hraw
    obtain ⟨f, hf, rfl⟩ := List.mem_map.1 hraw
    exact (hfs f hf).1
  have hstart : StreamState { State.resetWith p with requests := chunks.map processRequest } [] chunks fs :=
    { requests := rfl
      buffer := rfl
      held := heldStream_empty hroom hframes h
      accepted := hfs
      counter := by simpa using hcount }
  obtain ⟨t, hrun, hsink, hpr, hreq⟩ := run_of_streamState hstart
  refine ⟨t, hrun, hsink.trans (List.nil_append _), ?_, hreq⟩
  rw [hpr, State.resetWith_pr, Nat.zero_add]

/-! A corrupted frame in front of a valid one. -/

/-- A counted error on the frame at the head costs what is queued up to the next marker (R132(a)). -/
theorem Processor.drain_of_corrupted {p : Params} {raw rest : List Byte} {n e : Nat} (hframe : IsFrame raw)
    (hdisp : dispGen p raw = .error .corruptedFrame) (he : e < 2 ^ p.cntW - 1) :
    Processor.drain p ⟨derivedBuffer (raw ++ rest), n, e⟩ =
      Processor.drain p ⟨((derivedBuffer rest).resync p.marker).2, n, e + 1⟩ := by
  have hsettle : Processor.settle p ⟨derivedBuffer rest, n, e⟩ (dispGen p raw) =
      some (none, ⟨((derivedBuffer rest).resync p.marker).2, n, e + 1⟩) := by
    rw [hdisp]
    exact Processor.settle_counted (pr := ⟨derivedBuffer rest, n, e⟩) rfl he
  rw [Processor.drain_of_frame hframe hsettle]
  exact Option.map_id'

/-- A chunk in a processor just reset: what draining its bytes gives is the answer. -/
theorem prProcess_answers_of_empty {s : State} {fs : List Frame} {pr : Processor}
    (hpr : s.pr = ⟨⟨[], 0, false⟩, 0, 0⟩)
    (hroom : ∀ cap, s.params.qCap = some cap → s.ops.chunk.length ≤ cap)
    (hdrain : Processor.drain s.params ⟨derivedBuffer s.ops.chunk, 0, 0⟩ = some (fs, pr)) :
    Answers .prProcess s pr (s.sink ++ fs) .ok .nothing := by
  refine prProcess_answers (fb := derivedBuffer s.ops.chunk) ?_ ?_
  · rw [hpr]
    exact FrameBuffer.add_empty hroom
  · rw [hpr]
    exact hdrain

/-- Settles O58: the recovery looks behind the head, so it passes over a frame that stands right there and stops at one
with a byte in front. -/
theorem corruptedThenValidFrame : Obligations.CorruptedThenValidFrame := by
  rintro s bad good hreg hmarker hroom hpr hcnt rfl rfl
  have hmax : 0 < 2 ^ s.params.cntW - 1 := Nat.sub_pos_of_lt (Nat.one_lt_two_pow (by omega))
  have hkind : lookupType s.params 0x07 = some Config.descVariometer := by
    rw [lookupType_of_regEx hreg]
    rfl
  have hbad : dispGen s.params [0xC8, 0x04, 0x07, 0x00, 0x00, 0x24] = .error .corruptedFrame := by
    rw [dispGen_of_handled rfl hkind rfl]
    decide +kernel
  have hgood : Accepted s.params ⟨.named .variometer, [0xC8, 0x04, 0x07, 0x00, 0x00, 0x23]⟩ := by
    refine ⟨⟨by decide, by decide, 0x04, rfl, rfl⟩, ?_⟩
    rw [dispGen_of_handled rfl hkind rfl]
    decide +kernel
  have hbadFrame : IsFrame [0xC8, 0x04, 0x07, 0x00, 0x00, 0x24] := ⟨by decide, by decide, 0x04, rfl, rfl⟩
  constructor
  · intro hchunk
    have hlost : ((derivedBuffer [0xC8, 0x04, 0x07, 0x00, 0x00, 0x23]).resync s.params.marker).2 = FrameBuffer.empty := by
      rw [hmarker, FrameBuffer.resync_of_not_mem (by decide)]
    have hdrain : Processor.drain s.params ⟨derivedBuffer s.ops.chunk, 0, 0⟩ = some ([], ⟨FrameBuffer.empty, 0, 1⟩) := by
      rw [hchunk, Processor.drain_of_corrupted hbadFrame hbad hmax, hlost]
      exact Processor.drain_of_not_avail rfl
    have hanswer := prProcess_answers_of_empty hpr hroom hdrain
    rwa [List.append_nil] at hanswer
  · intro hchunk
    have hfound : ((derivedBuffer [0x00, 0xC8, 0x04, 0x07, 0x00, 0x00, 0x23]).resync s.params.marker).2 =
        derivedBuffer [0xC8, 0x04, 0x07, 0x00, 0x00, 0x23] := by
      rw [hmarker, FrameBuffer.resync_of_first_marker (pre := []) rfl (by decide)]
    have hdrain : Processor.drain s.params ⟨derivedBuffer s.ops.chunk, 0, 0⟩ =
        some ([⟨.named .variometer, [0xC8, 0x04, 0x07, 0x00, 0x00, 0x23]⟩], ⟨FrameBuffer.empty, 1, 1⟩) := by
      rw [hchunk, List.append_assoc, Processor.drain_of_corrupted hbadFrame hbad hmax]
      refine (congrArg (fun fb => Processor.drain s.params ⟨fb, 0, 1⟩) hfound).trans ?_
      exact Processor.drain_of_frames (q := []) rfl 1 [⟨.named .variometer, [0xC8, 0x04, 0x07, 0x00, 0x00, 0x23]⟩] 0
        (by simpa using hgood) hmax
    exact prProcess_answers_of_empty hpr hroom hdrain

end Sys2Proof.Machine
